-- ==== Sys2Proof/Word.lean ====
section
/-! DEFINITION. The word types of the pm5000s frame engine (spec/00_scope.md R12, R13). All values are unsigned. -/

namespace Sys2Proof

/-- A byte: 8 bits, unsigned (R12). -/
abbrev Byte := BitVec 8

/-- A 16-bit unsigned field: a serial-number field or a particle count (R12, R65). -/
abbrev Half := BitVec 16

/-- The 4-bit host opcode `cmd_op` (R38, R110). -/
abbrev Opcode := BitVec 4

/-- The 12-bit command word: `cmd_op` in bits 11:8, `cmd_arg` in bits 7:0 (R110). -/
abbrev CommandWord := BitVec 12

end Sys2Proof
end

