-- ==== Sys2Proof/Config.lean ====
section
/-! DEFINITION. The implementation parameters of spec/00_scope.md R11: the fixed ones as named constants, the open
ones as one plain record, `Config`, with the defaults R11 names. -/

namespace Sys2Proof

/-- When the inactivity timer runs (R11 `IDLE_START`, 42_sequencer.md R201, 92_eei_decisions.md D12). -/
inductive IdleStart where
  /-- from the opening of the capture window -/
  | atCaptureStart
  /-- only once a byte has been stored -/
  | atFirstByte
deriving DecidableEq, Repr

/-- The open parameters of R11 (R95 to R97, R205). No step changes them. -/
structure Config where
  /-- `REQ_RCAL`, the whole request frame of READ_CALIB_COEFF -/
  reqRcal : List Byte
  /-- the request frame of SETUP_CALIB_COEFF without its checksum byte; the byte at `scalPos` is replaced by v (R96, R176) -/
  scalBody : List Byte
  /-- the frame index p at which v stands (R96) -/
  scalPos : Nat
  /-- `REQ_RMEAS`, the whole request frame of READ_PARTICLE_MEASUREMENT -/
  reqRmeas : List Byte
  minlenRcal : Nat
  minlenScal : Nat
  minlenRmeas : Nat
  idleStart : IdleStart
  /-- `F_CLK` in Hz; only the clock-level step reads it (R152) -/
  fClk : Nat
deriving DecidableEq, Repr

namespace Config

/-- `HEAD_REQ` (R11, R91). -/
abbrev headReq : Byte := 0x11#8
/-- `HEAD_RSP` (R11, R92). -/
abbrev headRsp : Byte := 0x16#8
/-- `BUF_CAP` (R11, R26). -/
abbrev bufCap : Nat := 256
/-- `RX_THRESH` (R11, R142, R200). -/
abbrev rxThresh : Nat := 56
/-- `T_IDLE` in bit periods (R11, R142, R155). -/
abbrev tIdle : Nat := 960
/-- `BAUD` in bit/s (R11, R152). -/
abbrev baud : Nat := 9600
/-- `CALIB_MIN` (R11, R230). -/
abbrev calibMin : Nat := 10
/-- `CALIB_MAX` (R11, R230). -/
abbrev calibMax : Nat := 250
/-- `MINLEN_SERIAL` (R11, R222). -/
abbrev minlenSerial : Nat := 14
/-- `MINLEN_VERSION` (R11, R226). -/
abbrev minlenVersion : Nat := 17
/-- `MINLEN_MOPEN` (R11, R232). -/
abbrev minlenMopen : Nat := 5
/-- `MINLEN_MCLOSE` (R11, R234). -/
abbrev minlenMclose : Nat := 5
/-- `DATA_OFF`, the buffer index of the first data byte of a response (R11, R92). -/
abbrev dataOff : Nat := 3
/-- `REQ_SERIAL` (R11, R61). -/
abbrev reqSerial : List Byte := [0x11#8, 0x01#8, 0x1F#8, 0xCF#8]
/-- `REQ_VERSION` (R11, R61). -/
abbrev reqVersion : List Byte := [0x11#8, 0x01#8, 0x1E#8, 0xD0#8]
/-- `REQ_MOPEN` (R11, R61). -/
abbrev reqMopen : List Byte := [0x11#8, 0x03#8, 0x0C#8, 0x02#8, 0x1E#8, 0xC0#8]
/-- `REQ_MCLOSE` (R11, R61). -/
abbrev reqMclose : List Byte := [0x11#8, 0x03#8, 0x0C#8, 0x01#8, 0x1E#8, 0xC1#8]

/-- A free value: some byte, another one for every number. It has no body, so nothing can be proved of it (10_state.md R33
"hold unspecified values"; log 9). -/
opaque freeByte : Nat → Byte

/-- The defaults. The three request frames are the candidates of R98 (PRESUMED, log 11); the three minimum lengths and
`idleStart` are the defaults of R11 (log 12, log 13); `fClk` is 16 x 9600, the least that R152 advises (DESIGN CHOICE,
log 14). -/
def default : Config where
  reqRcal := [0x11#8, 0x01#8, 0x07#8, 0xE7#8]
  scalBody := [0x11#8, 0x02#8, 0x07#8, 0x00#8]
  scalPos := 3
  reqRmeas := [0x11#8, 0x02#8, 0x0B#8, 0x07#8, 0xDB#8]
  minlenRcal := 5
  minlenScal := 5
  minlenRmeas := 17
  idleStart := .atCaptureStart
  fClk := 153600

end Config

end Sys2Proof
end

