-- ==== Sys2Proof/Machine/Codec.lean ====
section
/-! DEFINITION. The checksum unit (spec/41_framecodec.md R160) and the template ROM with its templated frame
(spec/20_memory.md R61, 41_framecodec.md R175, R176). -/

namespace Sys2Proof.Machine

/-- The exact sum of a byte sequence; only its low 8 bits ever matter (R160). -/
def byteSum : List Byte → Nat
  | [] => 0
  | b :: bs => b.toNat + byteSum bs

/-- `Checksum(s)` as R160 writes it: (256 - (sum mod 256)) mod 256. -/
def checksum (bs : List Byte) : Byte := BitVec.ofNat 8 ((256 - byteSum bs % 256) % 256)

/-- A frame from the bytes before its checksum (R90, R176). -/
def withChecksum (body : List Byte) : List Byte := body ++ [checksum body]

/-- `REQ_SCAL(v)`: the template with v at its position, then the checksum of those bytes (R96, R176). -/
def reqScal (cfg : Config) (v : Byte) : List Byte := withChecksum (cfg.scalBody.set cfg.scalPos v)

/-- `ROM(op, v)` (R61): the request frame of a device opcode. It is empty for the other opcodes, which send nothing
(R110, R112). -/
def rom (cfg : Config) (op : Opcode) (v : Byte) : List Byte :=
  match op with
  | 0x4#4 => Config.reqSerial
  | 0x5#4 => Config.reqVersion
  | 0x6#4 => cfg.reqRcal
  | 0x7#4 => reqScal cfg v
  | 0x8#4 => Config.reqMopen
  | 0x9#4 => Config.reqMclose
  | 0xA#4 => cfg.reqRmeas
  | _ => []

/-- `MinLen(op)` (R205). No rule gives one to the other opcodes; 0 stands there and nothing reads it. -/
def minLen (cfg : Config) (op : Opcode) : Nat :=
  match op with
  | 0x4#4 => Config.minlenSerial
  | 0x5#4 => Config.minlenVersion
  | 0x6#4 => cfg.minlenRcal
  | 0x7#4 => cfg.minlenScal
  | 0x8#4 => Config.minlenMopen
  | 0x9#4 => Config.minlenMclose
  | 0xA#4 => cfg.minlenRmeas
  | _ => 0

/-- The device opcodes 0x4 to 0xA (R110). -/
def isDeviceOp (op : Opcode) : Bool := 4 ≤ op.toNat && op.toNat ≤ 10

/-- The range test of SETUP_CALIB_COEFF, both bounds included (R162 (f), R230). -/
def calibInRange (v : Byte) : Bool := Config.calibMin ≤ v.toNat && v.toNat ≤ Config.calibMax

/-- The argument test of dispatch line 6 (R195): only SETUP_CALIB_COEFF has one. -/
def argInRange (op : Opcode) (v : Byte) : Bool := op != 0x7#4 || calibInRange v

end Sys2Proof.Machine
end

