-- ==== Sys2Proof/Syntax.lean ====
section
/-! DEFINITION. The host operations of spec/30_encoding.md R110, one constructor per row of spec/opcode_table.json.
Every row carries `cmd_arg`: it is latched into ARG by all of them and read by SETUP_CALIB_COEFF only (R111). -/

namespace Sys2Proof

/-- One host command, decoded. -/
inductive Instr where
  /-- OPEN (R131) -/
  | openLine (arg : Byte)
  /-- CLOSE (R133) -/
  | closeLine (arg : Byte)
  /-- IS_OPENED (R135) -/
  | isOpened (arg : Byte)
  /-- READ_SERIAL_NO (R222) -/
  | readSerialNo (arg : Byte)
  /-- READ_SW_VERSION (R226) -/
  | readSwVersion (arg : Byte)
  /-- READ_CALIB_COEFF (R228) -/
  | readCalibCoeff (arg : Byte)
  /-- SETUP_CALIB_COEFF v (R230); here the argument is the operand v -/
  | setupCalibCoeff (v : Byte)
  /-- OPEN_PARTICLE_MEASUREMENT (R232) -/
  | openParticleMeasurement (arg : Byte)
  /-- CLOSE_PARTICLE_MEASUREMENT (R234) -/
  | closeParticleMeasurement (arg : Byte)
  /-- READ_PARTICLE_MEASUREMENT (R236) -/
  | readParticleMeasurement (arg : Byte)
  /-- RESERVED_0 (R112) -/
  | reserved0 (arg : Byte)
  /-- RESERVED_B (R112) -/
  | reservedB (arg : Byte)
  /-- RESERVED_C (R112) -/
  | reservedC (arg : Byte)
  /-- RESERVED_D (R112) -/
  | reservedD (arg : Byte)
  /-- RESERVED_E (R112) -/
  | reservedE (arg : Byte)
  /-- RESERVED_F (R112) -/
  | reservedF (arg : Byte)
deriving DecidableEq, Repr

end Sys2Proof
end

