-- ==== Sys2Proof/WellFormed.lean ====
section
/-! DEFINITION. What a well-formed instruction and a well-formed configuration are. Every 12-bit command word is an
instruction (R110, R112) and every value of an Instr's fields fits its encoding, so no instruction is ill-formed; the
checks with something to refuse are those of the configuration (30_encoding.md R96, R97, 42_sequencer.md R205). -/

namespace Sys2Proof

/-- Every term of `Instr` is an encodable command: the one operand has exactly the 8 bits of `cmd_arg` (R110, R111). An
argument of SETUP_CALIB_COEFF outside 10 to 250 is well formed too: the engine takes it and raises Unknown (R114). -/
def Instr.wf : Instr → Bool
  | .openLine _ | .closeLine _ | .isOpened _ | .readSerialNo _ | .readSwVersion _ | .readCalibCoeff _
  | .setupCalibCoeff _ | .openParticleMeasurement _ | .closeParticleMeasurement _ | .readParticleMeasurement _
  | .reserved0 _ | .reservedB _ | .reservedC _ | .reservedD _ | .reservedE _ | .reservedF _ => true

namespace Config

/-- The length byte of a request frame and its head (R97): byte 0 is 0x11, byte 1 is the frame's length less 3. -/
def headAndLen (frame : List Byte) (total : Nat) : Bool :=
  frame[0]? == some headReq && frame[1]? == some (BitVec.ofNat 8 (total - 3))

/-- A well-formed request frame (R97): 4 to 255 bytes, head, length byte, and the last byte the checksum of all bytes
before it. -/
def frameWf (frame : List Byte) : Bool :=
  4 ≤ frame.length && frame.length ≤ 255 && headAndLen frame frame.length &&
    frame.getLast? == some (Machine.checksum frame.dropLast)

/-- The template of SETUP_CALIB_COEFF makes a well-formed frame for every v (R96, R97): the frame has one byte more than
the body, and v stands at a data byte, 3 <= p <= L + 1. -/
def scalWf (body : List Byte) (pos : Nat) : Bool :=
  4 ≤ body.length + 1 && body.length + 1 ≤ 255 && headAndLen body (body.length + 1) &&
    3 ≤ pos && pos < body.length

/-- The bounds of the three open minimum lengths (R205): the highest index the decoder reads plus 2, and 56. -/
def minlenWf (c : Config) : Bool :=
  5 ≤ c.minlenRcal && c.minlenRcal ≤ rxThresh && 5 ≤ c.minlenScal && c.minlenScal ≤ rxThresh &&
    17 ≤ c.minlenRmeas && c.minlenRmeas ≤ rxThresh

/-- A configuration the model accepts (R97, R205). F_CLK is not bounded: R152 only advises at least 153600 Hz, and the model
accepts every value (DESIGN CHOICE, log 31). -/
def wf (c : Config) : Bool :=
  frameWf c.reqRcal && scalWf c.scalBody c.scalPos && frameWf c.reqRmeas && minlenWf c

end Config

end Sys2Proof
end

