-- ==== Sys2Proof/Decode.lean ====
section
/-! DEFINITION. Decoding of the host command word (spec/30_encoding.md R110) and the encoder beside it. The block has
parallel ports and no byte layout of a command; the two-byte form (first byte `cmd_arg`, second byte `cmd_op` with four
zero bits above) is the table's numbering cut into bytes, a DESIGN CHOICE (log 23). -/

namespace Sys2Proof

/-- Why a byte sequence is no command. -/
inductive DecodeError where
  /-- it has not exactly two bytes -/
  | wrongLength
  /-- a bit above bit 11 is set: the command word has 12 bits (R110) -/
  | notTwelveBits
deriving DecidableEq, Repr

/-- The opcode map of R110 with the reserved opcodes of R112: every (cmd_op, cmd_arg) is a command.
The last line is 0xF, the one opcode the lines above leave. -/
def decodeOp (op : Opcode) (arg : Byte) : Instr :=
  match op with
  | 0x0#4 => .reserved0 arg
  | 0x1#4 => .openLine arg
  | 0x2#4 => .closeLine arg
  | 0x3#4 => .isOpened arg
  | 0x4#4 => .readSerialNo arg
  | 0x5#4 => .readSwVersion arg
  | 0x6#4 => .readCalibCoeff arg
  | 0x7#4 => .setupCalibCoeff arg
  | 0x8#4 => .openParticleMeasurement arg
  | 0x9#4 => .closeParticleMeasurement arg
  | 0xA#4 => .readParticleMeasurement arg
  | 0xB#4 => .reservedB arg
  | 0xC#4 => .reservedC arg
  | 0xD#4 => .reservedD arg
  | 0xE#4 => .reservedE arg
  | _ => .reservedF arg

/-- `cmd_op` of a command word: bits 11:8 (R110). -/
def wordOp (w : CommandWord) : Opcode := w.extractLsb' 8 4

/-- `cmd_arg` of a command word: bits 7:0 (R110). -/
def wordArg (w : CommandWord) : Byte := w.extractLsb' 0 8

/-- The command a 12-bit word stands for (R110). -/
def decodeWord (w : CommandWord) : Instr := decodeOp (wordOp w) (wordArg w)

/-- The decoder over bytes, total, rejecting by name. -/
def decodeBytes : List Byte → Except DecodeError Instr
  | [lo, hi] => if hi.toNat < 16 then .ok (decodeOp (hi.extractLsb' 0 4) lo) else .error .notTwelveBits
  | _ => .error .wrongLength

/-- The instruction the decoder reads from a word numbered as spec/opcode_table.json numbers its bits. The table gives
12 bits, two whole bytes; the decoder is handed exactly those two. -/
def decodeTableWord (_nbits w : Nat) : Option Instr :=
  if w < 65536 then
    match decodeBytes [BitVec.ofNat 8 (w % 256), BitVec.ofNat 8 (w / 256)] with
    | .ok i => some i
    | .error _ => none
  else none

/-- `cmd_op` of an instruction (R110). -/
def Instr.opcode : Instr → Opcode
  | .reserved0 _ => 0x0#4
  | .openLine _ => 0x1#4
  | .closeLine _ => 0x2#4
  | .isOpened _ => 0x3#4
  | .readSerialNo _ => 0x4#4
  | .readSwVersion _ => 0x5#4
  | .readCalibCoeff _ => 0x6#4
  | .setupCalibCoeff _ => 0x7#4
  | .openParticleMeasurement _ => 0x8#4
  | .closeParticleMeasurement _ => 0x9#4
  | .readParticleMeasurement _ => 0xA#4
  | .reservedB _ => 0xB#4
  | .reservedC _ => 0xC#4
  | .reservedD _ => 0xD#4
  | .reservedE _ => 0xE#4
  | .reservedF _ => 0xF#4

/-- `cmd_arg` of an instruction (R110, R111). -/
def Instr.operand : Instr → Byte
  | .openLine a | .closeLine a | .isOpened a | .readSerialNo a | .readSwVersion a | .readCalibCoeff a
  | .setupCalibCoeff a | .openParticleMeasurement a | .closeParticleMeasurement a | .readParticleMeasurement a
  | .reserved0 a | .reservedB a | .reservedC a | .reservedD a | .reservedE a | .reservedF a => a

/-- The command word of an instruction (R110, R115). -/
def encode (i : Instr) : CommandWord := i.opcode ++ i.operand

/-- The two bytes of an instruction, in the layout of the file's head. -/
def encodeBytes (i : Instr) : List Byte := [i.operand, i.opcode.zeroExtend 8]

end Sys2Proof
end

