-- ==== Sys2Proof/Machine/State.lean ====
section
/-! DEFINITION. The state of the pm5000s frame engine as plain data: every register of spec/10_state.md R22 to R34, the
bit-level registers of R39, the parameters of 00_scope.md R11, and the environment the step reads (R7, R8, R10). -/

namespace Sys2Proof.Machine

/-- SEQ (R23). -/
inductive Seq where
  /-- S_IDLE = 0: no exchange in flight, a command can be accepted -/
  | idle
  /-- S_TX = 1: request bytes are being written -/
  | tx
  /-- S_RX = 2: the capture window is open -/
  | rx
  /-- S_CHECK = 3: the read has returned; validation and decoding -/
  | check
deriving DecidableEq, Repr

/-- The seven error kinds (60_exceptions.md R260). -/
inductive ErrorKind where
  | rxHeader
  | insufficientData
  | checksum
  | notOpened
  | measureNotOpened
  | measureNotClosed
  | unknown
deriving DecidableEq, Repr

/-- What STATUS holds (R30, R260): success or one error kind. The codes 8 to 15 are never written, so they have no
value here (92_eei_decisions.md D3: an enumeration, the numbers its encoding). -/
inductive Status where
  | ok
  | error (e : ErrorKind)
deriving DecidableEq, Repr

/-- The receive machine of the bit level (40_transport.md R153). -/
inductive RxPhase where
  /-- waiting for a 1-to-0 edge -/
  | waiting
  /-- an edge was seen; level 0 is checked again half a bit period later -/
  | start
  /-- the eight data bits are sampled -/
  | data
  /-- the stop bit position is awaited -/
  | stop
deriving DecidableEq, Repr

/-- The hidden registers below the byte level (R39). -/
structure BitState where
  /-- the bit-period divider, in clk cycles -/
  div : Nat
  /-- the transmit shift register; bit 0 drives uart_tx -/
  txShift : BitVec 10
  /-- bits of the character under way still to be finished; 0: no character -/
  txBits : Nat
  /-- the receive shift register -/
  rxShift : Byte
  /-- data bits sampled so far -/
  rxBits : Nat
  /-- the sample-point counter, in clk cycles -/
  rxSample : Nat
  rxPhase : RxPhase
  /-- the synchroniser's first stage -/
  sync0 : Bool
  /-- the synchroniser's second stage: the level the receive machine reads -/
  sync1 : Bool
  /-- the level the receive machine read one cycle before, for the edge (log 19) -/
  rxPrev : Bool
deriving DecidableEq, Repr

/-- The idle condition of R39 and R43: dividers 0, transmit shifter all ones, receive machine waiting. The synchroniser
and edge register are 0 while the receiver is off (DESIGN CHOICE, log 19). -/
def BitState.idle : BitState where
  div := 0
  txShift := 0x3FF#10
  txBits := 0
  rxShift := 0#8
  rxBits := 0
  rxSample := 0
  rxPhase := .waiting
  sync0 := false
  sync1 := false
  rxPrev := false

/-- One element of the line's answer to an exchange (R8, R203): a byte and the gap, in bit periods, from the completion
of the byte before it (for the first: from the opening of the window) to its completion. -/
structure RxChar where
  gap : Nat
  byte : Byte
deriving DecidableEq, Repr

/-- One command the host will present, with the environment of R208 for it: the answer of `open_ok` (sampled by OPEN
only) and the line's answer (taken by an exchange only). -/
structure Command where
  op : Opcode
  arg : Byte
  openOk : Bool
  stream : List RxChar
deriving DecidableEq, Repr

/-- RXBUF's contents (R26): the cells an exchange has written since reset, addresses strictly rising. An index that is
not listed has no value: the spec leaves it unspecified (R43, log 7). -/
abbrev Memory := List Host.Cell

/-- The engine, its parameters and its environment. -/
structure State where
  /-- OPENED (R22) -/
  opened : Bool
  /-- SEQ (R23) -/
  seq : Seq
  /-- OP (R24) -/
  op : Opcode
  /-- ARG (R24) -/
  arg : Byte
  /-- TX_IDX (R25) -/
  txIdx : BitVec 8
  /-- RXBUF[0..255] (R26) -/
  rxbuf : Memory
  /-- RX_CNT (R27) -/
  rxCnt : BitVec 9
  /-- IDLE_TMR (R28) -/
  idleTmr : BitVec 10
  /-- DONE (R29) -/
  done : Bool
  /-- STATUS (R30) -/
  status : Status
  /-- RES_BOOL (R31) -/
  resBool : Bool
  /-- RES_BYTE (R32) -/
  resByte : Byte
  /-- RES_STR[0..24] (R33) -/
  resStr : Vector Byte 25
  /-- RES_LEN (R33) -/
  resLen : BitVec 5
  /-- RES_CNT[0..5] (R34) -/
  resCnt : Vector Half 6
  /-- RES_ALARM (R34) -/
  resAlarm : Byte
  /-- the bit-level registers (R39) -/
  bit : BitState
  /-- the open parameters (R11); no step changes them (log 10) -/
  cfg : Config
  /-- environment: the commands the host will present, next first; it holds each until it is accepted (R9, log 1) -/
  host : List Command
  /-- environment: the level of the input `open_ok` (R38, R131) -/
  openOk : Bool
  /-- environment: what the line will still deliver in the exchange in flight (R8, R203) -/
  line : List RxChar
  /-- environment: the level of the input `rst` in the coming steps, next first; 0 when none is left (R300, log 5) -/
  rst : List Bool
  /-- record: the bytes put on the line so far, oldest first (R207 `sent`, log 18) -/
  txLine : List Byte
  /-- the model's own: how many free values have been drawn so far (log 9) -/
  free : Nat
deriving DecidableEq, Repr

/-- Stops of the model. No rule of the spec stops the engine; each constructor marks a case that the spec says cannot
arise, so that a departure of the model would show. All are safe and none is reachable from a state that meets
`Sys2Proof.Inv` (log 25). -/
inductive Fault where
  /-- raised by a decoder that reads RXBUF at an index at or above RX_CNT (20_memory.md R66). Safe. -/
  | rxbufReadBeyondCount
  /-- raised by the check step when a cell below RX_CNT was never written (R66). Safe. -/
  | rxbufUnwritten
  /-- raised by the receive step when RX_CNT is no index of RXBUF, 256 or more (R26, R69). Safe. -/
  | rxbufNoSuchIndex
  /-- raised by the transmit step when TX_IDX is not below the frame's length; R197 has no rule for it (R191). Safe. -/
  | txIndexPastFrame
deriving DecidableEq, Repr

/-- Refusals of the model. -/
inductive Refusal where
  /-- raised by exec for an instruction without a meaning yet. Safe. -/
  | notModelled (mnemonic : String)
  /-- raised by the step when the configuration breaks R97 or R205 ("a model should refuse"). Safe. -/
  | badConfiguration
deriving DecidableEq, Repr

/-- The machine right after reset (R43, R300). RXBUF and the result registers are unspecified there: RXBUF lists no cell
(log 7), the result registers hold 0 (DESIGN CHOICE, log 6). The environment presents nothing; `openOk` is true
(DESIGN CHOICE, log 28); the parameters are the defaults (log 11 to log 14). -/
def State.reset : State where
  opened := false
  seq := .idle
  op := 0#4
  arg := 0#8
  txIdx := 0#8
  rxbuf := []
  rxCnt := 0#9
  idleTmr := 0#10
  done := false
  status := .ok
  resBool := false
  resByte := 0#8
  resStr := Vector.replicate 25 0#8
  resLen := 0#5
  resCnt := Vector.replicate 6 0#16
  resAlarm := 0#8
  bit := BitState.idle
  cfg := Config.default
  host := []
  openOk := true
  line := []
  rst := []
  txLine := []
  free := 0

end Sys2Proof.Machine
end

