-- ==== Sys2Proof/Machine/Operands.lean ====
section
/-! DEFINITION. How values are taken from the received bytes (spec/20_memory.md R65, R66, R71, 30_encoding.md R100), how
a 16-bit field is written as decimal digits (43_operations.md R221), and the typed results of the operations. The
functions work on `buf`, the bytes RXBUF[0 .. RX_CNT - 1] of the exchange; `none` is a read at or above RX_CNT. -/

namespace Sys2Proof.Machine

/-- The byte at buffer index a, `MemRead(a, 1)` (R15, R66). -/
def byteAt (buf : List Byte) (a : Nat) : Option Byte := buf[a]?

/-- `BE16(a)`: the big-endian 16-bit field at buffer index a (R65, R100). -/
def be16 (buf : List Byte) (a : Nat) : Option Half :=
  match byteAt buf a, byteAt buf (a + 1) with
  | some hi, some lo => some (hi.zeroExtend 16 * 256#16 + lo.zeroExtend 16)
  | _, _ => none

/-- `n` 16-bit fields one after the other from buffer index a. -/
def be16s (buf : List Byte) : Nat → Nat → Option (List Half)
  | _, 0 => some []
  | a, n + 1 =>
    match be16 buf a, be16s buf (a + 2) n with
    | some f, some fs => some (f :: fs)
    | _, _ => none

/-- `n` raw bytes one after the other from buffer index a. -/
def bytesAt (buf : List Byte) : Nat → Nat → Option (List Byte)
  | _, 0 => some []
  | a, n + 1 =>
    match byteAt buf a, bytesAt buf (a + 1) n with
    | some b, some bs => some (b :: bs)
    | _, _ => none

/-- The ASCII digit of a number below 10 (R221). -/
def asciiDigit (d : Nat) : Byte := BitVec.ofNat 8 (0x30 + d)

/-- The decimal digits of n in front of `acc`, at most `fuel` of them; none for 0. -/
def decDigits : Nat → Nat → List Byte → List Byte
  | 0, _, acc => acc
  | fuel + 1, n, acc => if n = 0 then acc else decDigits fuel (n / 10) (asciiDigit (n % 10) :: acc)

/-- `Dec(f)` (R221): nothing for 0, else the decimal numeral without leading zeros. A 16-bit field has at most 5 digits. -/
def dec (f : Half) : List Byte := decDigits 5 f.toNat []

/-- The string of READ_SERIAL_NO (R222): the numerals joined; "0" when all are empty. -/
def serialString (fields : List Half) : List Byte :=
  match fields.flatMap dec with
  | [] => [0x30#8]
  | s => s

/-- The decoded result of a device operation: the typed half of `Result<T, ErrorKind>` (R16, R36). -/
inductive Result where
  /-- no result register is written -/
  | unit
  /-- RES_BOOL -/
  | bool (b : Bool)
  /-- RES_BYTE -/
  | byte (b : Byte)
  /-- RES_STR and RES_LEN -/
  | str (s : List Byte)
  /-- RES_CNT and RES_ALARM -/
  | sample (counts : Vector Half 6) (alarm : Byte)
deriving DecidableEq, Repr

/-- The six counts as registers RES_CNT[0..5] (R34); `none` unless there are exactly six. -/
def sampleCounts : List Half → Option (Vector Half 6)
  | [c0, c1, c2, c3, c4, c5] => some #v[c0, c1, c2, c3, c4, c5]
  | _ => none

end Sys2Proof.Machine
end

