-- ==== Sys2Proof/Machine/Flags.lean ====
section
/-! DEFINITION. The numeric codes of SEQ and STATUS (spec/10_state.md R23, 60_exceptions.md R260), the validator
(41_framecodec.md R165) and the validity of results (R36). There are no arithmetic flags (R35). -/

namespace Sys2Proof.Machine

/-- The encoding of SEQ (R23). -/
def Seq.code : Seq → BitVec 2
  | .idle => 0#2
  | .tx => 1#2
  | .rx => 2#2
  | .check => 3#2

/-- The code of an error kind (R260). -/
def ErrorKind.code : ErrorKind → BitVec 4
  | .rxHeader => 1#4
  | .insufficientData => 2#4
  | .checksum => 3#4
  | .notOpened => 4#4
  | .measureNotOpened => 5#4
  | .measureNotClosed => 6#4
  | .unknown => 7#4

/-- The code in STATUS (R30, R260): 0 for success. -/
def Status.code : Status → BitVec 4
  | .ok => 0#4
  | .error e => e.code

/-- The payload view of a validated frame (30_encoding.md R94). -/
structure View where
  offset : Nat
  length : Nat
deriving DecidableEq, Repr

/-- The declared length of a frame (R93, R162 (b)): len + 3, exact. -/
def declaredLength (len : Byte) : Nat := len.toNat + 3

/-- `Validate(buf, n, minLen)` (R165), on the n received bytes. The steps stand in the spec's order. -/
def validate (buf : List Byte) (minLen : Nat) : Except ErrorKind View :=
  match buf with
  | head :: len :: _ =>
    let declared := declaredLength len
    if buf.length < declared then .error .insufficientData
    else if head ≠ Config.headRsp then .error .rxHeader
    else if byteAt buf (declared - 1) ≠ some (checksum (buf.take (declared - 1))) then .error .checksum
    else if buf.length < minLen then .error .insufficientData
    else .ok { offset := 2, length := len.toNat }
  | _ => .error .insufficientData

/-- Whether RES_BOOL holds a defined value (R36): a completed OPEN, CLOSE or IS_OPENED, or an OPEN that failed. -/
def boolValid (s : State) : Bool :=
  s.done &&
    ((s.status == .ok && (s.op == 0x1#4 || s.op == 0x2#4 || s.op == 0x3#4)) ||
      (s.status == .error .unknown && s.op == 0x1#4))

/-- Whether RES_BYTE holds a defined value (R36). -/
def byteValid (s : State) : Bool := s.done && s.status == .ok && (s.op == 0x6#4 || s.op == 0x7#4)

/-- Whether RES_STR[0..RES_LEN-1] and RES_LEN hold defined values (R36). -/
def strValid (s : State) : Bool := s.done && s.status == .ok && (s.op == 0x4#4 || s.op == 0x5#4)

/-- Whether RES_CNT and RES_ALARM hold defined values (R36). -/
def sampleValid (s : State) : Bool := s.done && s.status == .ok && s.op == 0xA#4

end Sys2Proof.Machine
end

