-- ==== Sys2Proof/Machine/Ops.lean ====
section
/-! DEFINITION. The named operations over RXBUF and the registers, and taking an error: `raise` and `complete`
(spec/00_scope.md R15, R16, 60_exceptions.md R270). There is no return from an error (R272): the next acceptance leaves it. -/

namespace Sys2Proof.Machine

namespace Memory

/-- The byte at an index; `none` where nothing has been stored (R26, R66). -/
def read : Memory → Nat → Option Byte
  | [], _ => none
  | (b, v) :: m, a => if a = b then some v else read m a

/-- Stores a byte and touches nothing else (R68); the list stays sorted. -/
def write : Memory → Nat → Byte → Memory
  | [], a, v => [(a, v)]
  | (b, w) :: m, a, v =>
    if a < b then (a, v) :: (b, w) :: m
    else if a = b then (a, v) :: m
    else (b, w) :: write m a v

/-- The bytes at n indices from a on, `MemRead(a, n)` (R15); `none` if one of them was never stored. -/
def readRange (m : Memory) : Nat → Nat → Option (List Byte)
  | _, 0 => some []
  | a, n + 1 =>
    match read m a, readRange m (a + 1) n with
    | some b, some bs => some (b :: bs)
    | _, _ => none

/-- Every listed index is above `lo` and the indices rise strictly. -/
def risingFrom : Nat → Memory → Bool
  | _, [] => true
  | lo, (a, _) :: m => lo ≤ a && risingFrom (a + 1) m

/-- The canonical form: strictly rising indices, all below BUF_CAP (R26). No listed value can equal what an unlisted
index reads as, since that has no value (log 7). -/
def wf (m : Memory) : Bool := risingFrom 0 m && m.all (fun c => c.1 < Config.bufCap)

end Memory

namespace State

/-- Latching a command (R193): OP, ARG, and DONE to 0. -/
def latch (s : State) (op : Opcode) (arg : Byte) : State := { s with op := op, arg := arg, done := false }

/-- `raise E` (R16, R270): STATUS, DONE and SEQ, and nothing else. -/
def raise (s : State) (e : ErrorKind) : State := { s with status := .error e, done := true, seq := .idle }

/-- `complete OK` (R16, R270), once the result registers are written. -/
def complete (s : State) : State := { s with status := .ok, done := true, seq := .idle }

/-- Writing OPENED (R22). -/
def setOpened (s : State) (b : Bool) : State := { s with opened := b }

/-- RES_STR[0..|str|-1] <- str: the registers from |str| on take free values, the n-th and those after it (R33, log 9). -/
def putStr (n : Nat) (str : List Byte) : Vector Byte 25 :=
  ⟨((str ++ (List.range 25).map fun k => Config.freeByte (n + k)).take 25).toArray, by simp⟩

/-- Writing the result registers of one operation, all in one step (R68). -/
def setResult (s : State) : Result → State
  | .unit => s
  | .bool b => { s with resBool := b }
  | .byte b => { s with resByte := b }
  | .str str => { s with resStr := putStr s.free str, resLen := BitVec.ofNat 5 str.length, free := s.free + 25 }
  | .sample counts alarm => { s with resCnt := counts, resAlarm := alarm }

/-- Start of an exchange (R196). -/
def startExchange (s : State) : State := { s with txIdx := 0#8, seq := .tx }

/-- A request byte has been sent completely (R197). -/
def sentByte (s : State) (b : Byte) : State :=
  { s with txIdx := s.txIdx + 1#8, txLine := s.txLine ++ [b] }

/-- Opening of the capture window (R198); the receiver starts with no character under way. -/
def openWindow (s : State) : State :=
  { s with rxCnt := 0#9, idleTmr := 0#10, seq := .rx, bit := BitState.idle }

/-- Storing a received byte at index RX_CNT (R199). -/
def storeByte (s : State) (b : Byte) : State :=
  { s with rxbuf := Memory.write s.rxbuf s.rxCnt.toNat b, rxCnt := s.rxCnt + 1#9, idleTmr := 0#10 }

/-- The end of the read (R200, R201): the receiver is off, what the line still carries is dropped (R202). -/
def closeWindow (s : State) : State := { s with seq := .check, line := [], bit := BitState.idle }

/-- The end of the read by inactivity: IDLE_TMR has reached 960 (R201, log 15). -/
def expire (s : State) : State := { s.closeWindow with idleTmr := BitVec.ofNat 10 Config.tIdle }

/-- Every register at its reset value (R300); the parameters stay, and so does the environment but for the rest of the
aborted exchange's stream (R301). RXBUF and the result registers are unspecified after it (log 6, log 7). -/
def resetRegisters (s : State) : State :=
  { State.reset with cfg := s.cfg, host := s.host, openOk := s.openOk, rst := s.rst, txLine := s.txLine,
                     free := s.free }

/-- The level of `rst` in this step (R300). -/
def rstNow (s : State) : Bool := s.rst.headD false

/-- The step has used up one sample of `rst` (log 5). -/
def tick (s : State) : State := { s with rst := s.rst.tail }

end State

end Sys2Proof.Machine
end

