-- ==== Sys2Proof/Machine/Sequencer.lean ====
section
/-! DEFINITION. The half-duplex request-response sequencer (spec/42_sequencer.md R190 to R204), one byte-level step at a
time, shared by the seven device operations; and the acceptance of the commands that complete at once. -/

namespace Sys2Proof.Machine

/-- What a step answers. -/
abbrev Answer := Host.Outcome State Fault Refusal

/-- A decoder: from the received bytes to a result or its own error kind; `none` when it read at or above RX_CNT
(R66, R220). -/
abbrev Decoder := List Byte → Option (Except ErrorKind Result)

/-- A command that completes in the accept step (R193, R195 lines 1 to 4). While an exchange is in flight a presented
command is neither accepted nor remembered (R192, log 3). -/
def atAcceptance (op : Opcode) (arg : Byte) (effect : State → State) (s : State) : Answer :=
  match s.seq with
  | .idle => .next (effect (s.latch op arg))
  | .tx | .rx | .check => .next s

/-- Acceptance of a device command, lines 5 to 7 of the dispatch (R194, R195, R196). Lines 5 and 6 write what R193 and R270
name and nothing else, so TX_IDX keeps its value there (log 29). -/
def acceptDevice (op : Opcode) (arg : Byte) (argOk : Bool) (s : State) : State :=
  let s := s.latch op arg
  if s.opened = false then s.raise .notOpened
  else if argOk = false then s.raise .unknown
  else s.startExchange

/-- The request frame of the exchange in flight (R196, R76): the ROM entry of the latched values. -/
def State.frame (s : State) : List Byte := rom s.cfg s.op s.arg

/-- The transmit step (R197), with the opening of the capture window after the last byte (R198). -/
def transmit (s : State) : Answer :=
  match s.frame[s.txIdx.toNat]? with
  | none => .fault .txIndexPastFrame
  | some b =>
    if s.txIdx.toNat + 1 = s.frame.length then .next (s.sentByte b).openWindow
    else .next (s.sentByte b)

/-- The receive step for a completed byte (R199), with the end of the read by count (R200). -/
def receive (b : Byte) (s : State) : Answer :=
  if Config.bufCap ≤ s.rxCnt.toNat then .fault .rxbufNoSuchIndex
  else if s.rxCnt.toNat + 1 = Config.rxThresh then .next (s.storeByte b).closeWindow
  else .next (s.storeByte b)

/-- Whether the inactivity timer is running (R28, R201). -/
def timerRuns (s : State) : Bool := s.cfg.idleStart == .atCaptureStart || 0 < s.rxCnt.toNat

/-- The step in S_RX: the next event of the line, a byte completed within T_IDLE or the expiry of the timer (R199 to
R201, R203; a gap of exactly 960 is inactivity). On a silent line with a timer that does not run the read goes on for
ever (R209, log 26). -/
def listenLine (s : State) : Answer :=
  match s.line with
  | [] => if timerRuns s then .next s.expire else .next s
  | c :: rest =>
    if timerRuns s && Config.tIdle ≤ c.gap then .next s.expire
    else receive c.byte { s with line := rest }

/-- What a decoder's answer does to the state (R204, R270). -/
def finish (r : Except ErrorKind Result) (s : State) : State :=
  match r with
  | .error e => s.raise e
  | .ok v => (s.setResult v).complete

/-- The check step (R204): Validate over the received bytes, then the operation's decoder. -/
def check (minLen : Nat) (decoder : Decoder) (s : State) : Answer :=
  match Memory.readRange s.rxbuf 0 s.rxCnt.toNat with
  | none => .fault .rxbufUnwritten
  | some buf =>
    match validate buf minLen with
    | .error e => .next (s.raise e)
    | .ok _ =>
      match decoder buf with
      | none => .fault .rxbufReadBeyondCount
      | some r => .next (finish r s)

/-- One step of a device operation (R191): its acceptance in S_IDLE, and from then on the phase its exchange is in. In
S_TX, S_RX and S_CHECK only the command in flight goes on; another one presented then is neither accepted nor
remembered (R192, log 3). -/
def deviceStep (op : Opcode) (arg : Byte) (argOk : Bool) (decoder : Decoder) (s : State) : Answer :=
  match s.seq with
  | .idle => .next (acceptDevice op arg argOk s)
  | .tx => if s.op = op ∧ s.arg = arg then transmit s else .next s
  | .rx => if s.op = op ∧ s.arg = arg then listenLine s else .next s
  | .check => if s.op = op ∧ s.arg = arg then check (minLen s.cfg op) decoder s else .next s

end Sys2Proof.Machine
end

