-- ==== Sys2Proof/Machine/Device.lean ====
section
/-! DEFINITION. The seven device operations (spec/43_operations.md R222 to R236): the decoder of each, and each as one
step of the shared sequencer. Decoders read at constant indices from DATA_OFF = 3 and look at nothing else (R220). -/

namespace Sys2Proof.Machine

/-- READ_SERIAL_NO's decoder (R222). -/
def decodeSerialNo : Decoder := fun buf =>
  (be16s buf Config.dataOff 5).map fun fields => .ok (.str (serialString fields))

/-- READ_SW_VERSION's decoder (R226): 13 raw bytes. -/
def decodeSwVersion : Decoder := fun buf => (bytesAt buf Config.dataOff 13).map fun s => .ok (.str s)

/-- READ_CALIB_COEFF's decoder (R228): the byte as it is. -/
def decodeCalibRead : Decoder := fun buf => (byteAt buf Config.dataOff).map fun b => .ok (.byte b)

/-- SETUP_CALIB_COEFF's decoder (R230): the echoed byte as it is, not compared with v. -/
def decodeCalibEcho : Decoder := fun buf => (byteAt buf Config.dataOff).map fun b => .ok (.byte b)

/-- OPEN_PARTICLE_MEASUREMENT's decoder (R232): the discriminator must be 0x02. -/
def decodeMeasureOpened : Decoder := fun buf =>
  (byteAt buf Config.dataOff).map fun b => if b = 0x02#8 then .ok .unit else .error .measureNotOpened

/-- CLOSE_PARTICLE_MEASUREMENT's decoder (R234): the discriminator must be 0x01. -/
def decodeMeasureClosed : Decoder := fun buf =>
  (byteAt buf Config.dataOff).map fun b => if b = 0x01#8 then .ok .unit else .error .measureNotClosed

/-- READ_PARTICLE_MEASUREMENT's decoder (R236): six counts, then the alarm byte. -/
def decodeMeasurement : Decoder := fun buf =>
  match (be16s buf Config.dataOff 6).bind sampleCounts, byteAt buf (Config.dataOff + 12) with
  | some counts, some alarm => some (.ok (.sample counts alarm))
  | _, _ => none

/-- READ_SERIAL_NO (R222). -/
def execReadSerialNo (arg : Byte) (s : State) : Answer := deviceStep 0x4#4 arg true decodeSerialNo s

/-- READ_SW_VERSION (R226). -/
def execReadSwVersion (arg : Byte) (s : State) : Answer := deviceStep 0x5#4 arg true decodeSwVersion s

/-- READ_CALIB_COEFF (R228). -/
def execReadCalibCoeff (arg : Byte) (s : State) : Answer := deviceStep 0x6#4 arg true decodeCalibRead s

/-- SETUP_CALIB_COEFF v (R230): v outside 10 to 250 is rejected at acceptance, after the NotOpened check. -/
def execSetupCalibCoeff (v : Byte) (s : State) : Answer := deviceStep 0x7#4 v (calibInRange v) decodeCalibEcho s

/-- OPEN_PARTICLE_MEASUREMENT (R232). -/
def execOpenParticleMeasurement (arg : Byte) (s : State) : Answer := deviceStep 0x8#4 arg true decodeMeasureOpened s

/-- CLOSE_PARTICLE_MEASUREMENT (R234). -/
def execCloseParticleMeasurement (arg : Byte) (s : State) : Answer := deviceStep 0x9#4 arg true decodeMeasureClosed s

/-- READ_PARTICLE_MEASUREMENT (R236). -/
def execReadParticleMeasurement (arg : Byte) (s : State) : Answer := deviceStep 0xA#4 arg true decodeMeasurement s

end Sys2Proof.Machine
end

