-- ==== Sys2Proof/Machine/Handle.lean ====
section
/-! DEFINITION. OPEN, CLOSE, IS_OPENED (spec/40_transport.md R131 to R135) and the reserved opcodes (30_encoding.md R112). -/

namespace Sys2Proof.Machine

/-- OPEN's effect (R131, R132): OPENED and RES_BOOL take `open_ok`; Unknown when it is 0. -/
def openEffect (s : State) : State :=
  let t := (s.setOpened s.openOk).setResult (.bool s.openOk)
  match s.openOk with
  | true => t.complete
  | false => t.raise .unknown

/-- CLOSE's effect (R133). -/
def closeEffect (s : State) : State := ((s.setOpened false).setResult (.bool true)).complete

/-- IS_OPENED's effect (R135). -/
def isOpenedEffect (s : State) : State := (s.setResult (.bool s.opened)).complete

/-- A reserved opcode's effect (R112, R195 line 1). -/
def reservedEffect (s : State) : State := s.raise .unknown

/-- OPEN (R131, R132). -/
def execOpen (arg : Byte) (s : State) : Answer := atAcceptance 0x1#4 arg openEffect s

/-- CLOSE (R133). -/
def execClose (arg : Byte) (s : State) : Answer := atAcceptance 0x2#4 arg closeEffect s

/-- IS_OPENED (R135). -/
def execIsOpened (arg : Byte) (s : State) : Answer := atAcceptance 0x3#4 arg isOpenedEffect s

/-- RESERVED_0 (R112). -/
def execReserved0 (arg : Byte) (s : State) : Answer := atAcceptance 0x0#4 arg reservedEffect s

/-- RESERVED_B (R112). -/
def execReservedB (arg : Byte) (s : State) : Answer := atAcceptance 0xB#4 arg reservedEffect s

/-- RESERVED_C (R112). -/
def execReservedC (arg : Byte) (s : State) : Answer := atAcceptance 0xC#4 arg reservedEffect s

/-- RESERVED_D (R112). -/
def execReservedD (arg : Byte) (s : State) : Answer := atAcceptance 0xD#4 arg reservedEffect s

/-- RESERVED_E (R112). -/
def execReservedE (arg : Byte) (s : State) : Answer := atAcceptance 0xE#4 arg reservedEffect s

/-- RESERVED_F (R112). -/
def execReservedF (arg : Byte) (s : State) : Answer := atAcceptance 0xF#4 arg reservedEffect s

end Sys2Proof.Machine
end

