-- ==== Sys2Proof/Machine/Dispatch.lean ====
section
/-! DEFINITION. One step of an instruction, arm by arm. -/

namespace Sys2Proof.Machine

def exec (i : Instr) (s : State) : Host.Outcome State Fault Refusal :=
  match i with
  | .openLine arg => Sys2Proof.Machine.execOpen arg s
  | .closeLine arg => Sys2Proof.Machine.execClose arg s
  | .isOpened arg => Sys2Proof.Machine.execIsOpened arg s
  | .readSerialNo arg => Sys2Proof.Machine.execReadSerialNo arg s
  | .readSwVersion arg => Sys2Proof.Machine.execReadSwVersion arg s
  | .readCalibCoeff arg => Sys2Proof.Machine.execReadCalibCoeff arg s
  | .setupCalibCoeff v => Sys2Proof.Machine.execSetupCalibCoeff v s
  | .openParticleMeasurement arg => Sys2Proof.Machine.execOpenParticleMeasurement arg s
  | .closeParticleMeasurement arg => Sys2Proof.Machine.execCloseParticleMeasurement arg s
  | .readParticleMeasurement arg => Sys2Proof.Machine.execReadParticleMeasurement arg s
  | .reserved0 arg => Sys2Proof.Machine.execReserved0 arg s
  | .reservedB arg => Sys2Proof.Machine.execReservedB arg s
  | .reservedC arg => Sys2Proof.Machine.execReservedC arg s
  | .reservedD arg => Sys2Proof.Machine.execReservedD arg s
  | .reservedE arg => Sys2Proof.Machine.execReservedE arg s
  | .reservedF arg => Sys2Proof.Machine.execReservedF arg s

end Sys2Proof.Machine
end

