-- ==== Sys2Proof/Machine/Fetch.lean ====
section
/-! DEFINITION. Where the next instruction of a step comes from: the command port in S_IDLE (spec/42_sequencer.md R192),
the latched OP and ARG while an exchange is in flight (R196, R204). -/

namespace Sys2Proof.Machine

/-- Taking the next command from the host: it leaves the queue, and its environment becomes the engine's (R192, R208,
log 1). -/
def State.present (s : State) (c : Command) (rest : List Command) : State :=
  { s with host := rest, openOk := c.openOk, line := c.stream }

/-- The instruction of this step with the state it runs in; `none` when the engine waits in S_IDLE and the host presents
nothing (R302). -/
def nextInstr (s : State) : Option (Instr × State) :=
  match s.seq with
  | .idle =>
    match s.host with
    | [] => none
    | c :: rest => some (decodeOp c.op c.arg, s.present c rest)
  | .tx | .rx | .check => some (decodeOp s.op s.arg, s)

/-- The state with a command word presented next, so that the very next step accepts it: first in the host's queue, the
engine in S_IDLE, `rst` 0 in that step. The command brings the `open_ok` and the line answer the state already has
(log 2). -/
def State.withCommandWord (s : State) (w : Nat) : State :=
  { s with
    seq := .idle
    host := { op := BitVec.ofNat 4 (w / 256), arg := BitVec.ofNat 8 (w % 256), openOk := s.openOk, stream := s.line } :: s.host
    rst := false :: s.rst.tail }

end Sys2Proof.Machine
end

