-- ==== Sys2Proof/Machine/Step.lean ====
section
/-! DEFINITION. The byte-level step (spec/00_scope.md R6): one command accepted, one byte sent, one byte received or the
timer's expiry, or one check. -/

namespace Sys2Proof.Machine

/-- One step. An ill-formed configuration is refused (R97, R205). Reset wins over everything (R300). Otherwise the step
is one step of the instruction presented or in flight; with nothing presented the engine waits (R302, log 4). -/
def step (s : State) : Host.Outcome State Fault Refusal :=
  if s.cfg.wf = false then .refused .badConfiguration
  else if s.rstNow then .next s.tick.resetRegisters
  else
    match nextInstr s.tick with
    | none => .next s.tick
    | some (i, t) => exec i t

/-- The state in which the next step accepts the command word w (log 2). -/
def State.withFetchWord (s : State) (_nbits w : Nat) : State := s.withCommandWord w

end Sys2Proof.Machine
end

