-- ==== Sys2Proof/Machine/Line.lean ====
section
/-! DEFINITION. The serial line at the bit level (spec/40_transport.md R150 to R155, 92_eei_decisions.md D16): the
character format, the transmitter and the receiver as functions of the hidden registers of 10_state.md R39. The level
conventions are general knowledge the spec adopts by decision. -/

namespace Sys2Proof.Machine

/-- `DIV = round(F_CLK / 9600)` (R152); a half rounds up (DESIGN CHOICE, log 14). It is 0 for an F_CLK below 4800 Hz, which
the spec does not exclude and gives no meaning (DESIGN CHOICE, log 31). -/
def bitDiv (cfg : Config) : Nat := (cfg.fClk + Config.baud / 2) / Config.baud

/-- A character as the transmit shift register holds it: start bit 0 lowest, the byte, stop bit 1 (R150, R151). -/
def charBits (b : Byte) : BitVec 10 := 1#1 ++ b ++ 0#1

/-- The levels of a character in time order: start, b[0] to b[7], stop (R150, R151). -/
def charLevels (b : Byte) : List Bool :=
  [false, b.getLsbD 0, b.getLsbD 1, b.getLsbD 2, b.getLsbD 3, b.getLsbD 4, b.getLsbD 5, b.getLsbD 6, b.getLsbD 7, true]

namespace BitState

/-- A character begins (R150). -/
def load (r : BitState) (b : Byte) : BitState := { r with div := 0, txShift := charBits b, txBits := 10 }

/-- One clk cycle of the transmitter; the flag says that the character's last bit period has ended (R152). With DIV 0 every
clk cycle is a bit period (DESIGN CHOICE, log 31). -/
def txClock (r : BitState) (div : Nat) : BitState × Bool :=
  if r.div + 1 < div then ({ r with div := r.div + 1 }, false)
  else ({ r with div := 0, txShift := (r.txShift >>> 1) ||| 0x200#10, txBits := r.txBits - 1 }, r.txBits == 1)

/-- The synchroniser and the edge register take one sample of uart_rx (R153). -/
def sample (r : BitState) (rx : Bool) : BitState := { r with sync0 := rx, sync1 := r.sync0, rxPrev := r.sync1 }

/-- One clk cycle of the receiver (R153); a byte is answered at the stop bit position, whatever the level there (R154).
The machine reads the synchroniser's second stage as it was before the cycle. "Half a bit period" is DIV / 2 clk cycles,
rounded down for an odd DIV, but never less than one clk cycle: with DIV 0 and with DIV 1 the start bit is checked one clk
cycle after the edge (DESIGN CHOICE, log 32). With DIV 0 a bit period is one clk cycle here too (DESIGN CHOICE, log 31). -/
def rxClock (r : BitState) (div : Nat) (rx : Bool) : BitState × Option Byte :=
  let n := r.sample rx
  match r.rxPhase with
  | .waiting =>
    if r.rxPrev && !r.sync1 then ({ n with rxPhase := .start, rxSample := 0 }, none) else (n, none)
  | .start =>
    if r.rxSample + 1 < div / 2 then ({ n with rxSample := r.rxSample + 1 }, none)
    else if r.sync1 then ({ n with rxPhase := .waiting, rxSample := 0 }, none)
    else ({ n with rxPhase := .data, rxSample := 0, rxBits := 0 }, none)
  | .data =>
    if r.rxSample + 1 < div then ({ n with rxSample := r.rxSample + 1 }, none)
    else
      ({ n with
          rxShift := (r.rxShift >>> 1) ||| (if r.sync1 then 0x80#8 else 0#8)
          rxBits := r.rxBits + 1
          rxSample := 0
          rxPhase := if r.rxBits + 1 = 8 then .stop else .data }, none)
  | .stop =>
    if r.rxSample + 1 < div then ({ n with rxSample := r.rxSample + 1 }, none)
    else ({ n with rxPhase := .waiting, rxSample := 0, rxBits := 0 }, some r.rxShift)

end BitState

end Sys2Proof.Machine
end

