-- ==== Sys2Proof/Machine/Clock.lean ====
section
/-! DEFINITION. The block one clk cycle at a time: the input ports of spec/10_state.md R38 and the bit level of
40_transport.md R150 to R155, over the same State and the same accept, transmit, receive, expire and check steps as the
byte level (log 27). It uses none of State's environment fields but `openOk`, the port's level. -/

namespace Sys2Proof.Machine

/-- The input ports in one clk cycle (R38). -/
structure Pins where
  rst : Bool
  cmdValid : Bool
  cmdOp : Opcode
  cmdArg : Byte
  openOk : Bool
  uartRx : Bool
deriving DecidableEq, Repr

/-- In S_TX with no character under way, the next one begins (R197; log 21). -/
def State.loadChar (s : State) : State :=
  if s.seq = .tx ∧ s.bit.txBits = 0 then
    match s.frame[s.txIdx.toNat]? with
    | some b => { s with bit := s.bit.load b }
    | none => s
  else s

/-- The same after a step that may have entered or stayed in S_TX. -/
def loadNext : Answer → Answer
  | .next s => .next s.loadChar
  | .fault r => .fault r
  | .refused r => .refused r

/-- A clk cycle in S_TX (R197, R198). -/
def clockTx (s : State) : Answer :=
  if s.bit.txBits = 0 then .next s.loadChar
  else
    let r := s.bit.txClock (bitDiv s.cfg)
    if r.2 then loadNext (transmit { s with bit := r.1 }) else .next { s with bit := r.1 }

/-- A clk cycle in S_RX: the receiver, and the inactivity timer counting bit periods (R153, R155, R199 to R201). When a
byte completes in the cycle in which the timer reaches 960 the timer wins (R201, R266 (a), log 20). With DIV 0 every clk
cycle is a bit period (DESIGN CHOICE, log 31). -/
def clockRx (rx : Bool) (s : State) : Answer :=
  let r := s.bit.rxClock (bitDiv s.cfg) rx
  let period : Bool := !decide (s.bit.div + 1 < bitDiv s.cfg)
  let timer := if period && timerRuns s then s.idleTmr.toNat + 1 else s.idleTmr.toNat
  if Config.tIdle ≤ timer then .next s.expire
  else
    match r.2 with
    | some b => receive b { s with bit := { r.1 with div := 0 } }
    | none =>
      .next { s with
        bit := { r.1 with div := if period then 0 else s.bit.div + 1 }
        idleTmr := BitVec.ofNat 10 timer }

/-- One clk cycle of the block. A command is accepted exactly when `cmd_valid` and `cmd_ready` are both 1 (R192); reset
wins over everything (R300); S_CHECK takes one cycle (log 22). -/
def clockStep (p : Pins) (s : State) : Answer :=
  if s.cfg.wf = false then .refused .badConfiguration
  else if p.rst then .next s.resetRegisters
  else
    match s.seq with
    | .idle =>
      if p.cmdValid then loadNext (exec (decodeOp p.cmdOp p.cmdArg) { s with openOk := p.openOk }) else .next s
    | .tx => clockTx s
    | .rx => clockRx p.uartRx s
    | .check => exec (decodeOp s.op s.arg) s

/-- Several clk cycles, stopping at the first fault or refusal. -/
def clockRun : List Pins → State → Answer
  | [], s => .next s
  | p :: ps, s =>
    match clockStep p s with
    | .next t => clockRun ps t
    | .fault r => .fault r
    | .refused r => .refused r

end Sys2Proof.Machine
end

