-- ==== Sys2Proof/Machine/Exchange.lean ====
section
/-! DEFINITION. A whole command as one function, beside the step-by-step machine: Capture, Exchange and Exec of
spec/42_sequencer.md R203, R207, R208. The two descriptions share the ROM, Validate and the decoders. -/

namespace Sys2Proof.Machine

/-- The bytes stored from a stream while at most `room` fit and every gap is below T_IDLE (R203). -/
def captureWithin : Nat → List RxChar → List Byte
  | 0, _ => []
  | _ + 1, [] => []
  | room + 1, c :: cs => if Config.tIdle ≤ c.gap then [] else c.byte :: captureWithin room cs

/-- `Capture(stream)` (R203); `none` where the read never ends (R209). -/
def capture : IdleStart → List RxChar → Option (List Byte)
  | .atCaptureStart, stream => some (captureWithin Config.rxThresh stream)
  | .atFirstByte, [] => none
  | .atFirstByte, c :: cs => some (c.byte :: captureWithin (Config.rxThresh - 1) cs)

/-- `Decode(op)` (R204, R205): the decoder of a device opcode; the others have none. -/
def decoderOf (op : Opcode) : Decoder :=
  match op with
  | 0x4#4 => decodeSerialNo
  | 0x5#4 => decodeSwVersion
  | 0x6#4 => decodeCalibRead
  | 0x7#4 => decodeCalibEcho
  | 0x8#4 => decodeMeasureOpened
  | 0x9#4 => decodeMeasureClosed
  | 0xA#4 => decodeMeasurement
  | _ => fun _ => none

/-- Validate, then Decode, on the captured bytes (R207). -/
def conclude (cfg : Config) (op : Opcode) (buf : List Byte) : Option (Except ErrorKind Result) :=
  match validate buf (minLen cfg op) with
  | .error e => some (.error e)
  | .ok _ => decoderOf op buf

/-- What a command does, seen from the host (R208). -/
structure Effect where
  opened : Bool
  sent : List Byte
  status : Status
  result : Option Result
deriving DecidableEq, Repr

/-- STATUS and result registers of an exchange's outcome (R208, R36). -/
def Effect.ofExchange (sent : List Byte) : Except ErrorKind Result → Effect
  | .error e => { opened := true, sent := sent, status := .error e, result := none }
  | .ok r => { opened := true, sent := sent, status := .ok, result := some r }

/-- `Exchange(op, v, stream)` (R207); `none` where the read never ends (R209). -/
def exchange (cfg : Config) (op : Opcode) (v : Byte) (stream : List RxChar) : Option Effect :=
  match capture cfg.idleStart stream with
  | none => none
  | some buf => (conclude cfg op buf).map (Effect.ofExchange (rom cfg op v))

/-- `Exec(OPENED, (cmd_op, cmd_arg), env)` (R208): the whole command as a function of the one bit that links commands. -/
def commandEffect (cfg : Config) (opened : Bool) (c : Command) : Option Effect :=
  if c.op = 0x1#4 then
    some { opened := c.openOk, sent := [], status := if c.openOk then .ok else .error .unknown,
           result := some (.bool c.openOk) }
  else if c.op = 0x2#4 then some { opened := false, sent := [], status := .ok, result := some (.bool true) }
  else if c.op = 0x3#4 then some { opened := opened, sent := [], status := .ok, result := some (.bool opened) }
  else if isDeviceOp c.op = false then
    some { opened := opened, sent := [], status := .error .unknown, result := none }
  else if opened = false then some { opened := false, sent := [], status := .error .notOpened, result := none }
  else if argInRange c.op c.arg = false then
    some { opened := true, sent := [], status := .error .unknown, result := none }
  else exchange cfg c.op c.arg c.stream

/-- A sequence of commands as the fold of `commandEffect` (R208): the effects in order, or `none` once one of them never
ends. -/
def commandEffects (cfg : Config) : Bool → List Command → Option (List Effect)
  | _, [] => some []
  | opened, c :: cs =>
    match commandEffect cfg opened c with
    | none => none
    | some e => (commandEffects cfg e.opened cs).map (e :: ·)

end Sys2Proof.Machine
end

