-- ==== Sys2Proof/Machine/Ports.lean ====
section
/-! DEFINITION. The output ports of spec/10_state.md R38. Reading one has no side effect. A result register outside its
validity (R36) has no meaning for the host: its port answers `none` (93_implementation_defined.md U6, log 8). -/

namespace Sys2Proof.Machine

/-- `cmd_ready`, given the level of `rst` (R38, R192). -/
def cmdReady (rst : Bool) (s : State) : Bool := s.seq == .idle && !rst

/-- `busy` (R38). -/
def busyPort (s : State) : Bool := s.seq != .idle

/-- `opened` (R38). -/
def openedPort (s : State) : Bool := s.opened

/-- `done` (R38, R280). -/
def donePort (s : State) : Bool := s.done

/-- `status` (R38, R260). -/
def statusPort (s : State) : BitVec 4 := s.status.code

/-- `res_bool` (R31, R36). -/
def resBoolPort (s : State) : Option Bool := if boolValid s then some s.resBool else none

/-- `res_byte` (R32, R36). -/
def resBytePort (s : State) : Option Byte := if byteValid s then some s.resByte else none

/-- `res_len` (R33, R36). -/
def resLenPort (s : State) : Option (BitVec 5) := if strValid s then some s.resLen else none

/-- One register of `res_str` (R33, R36): no meaning at and above RES_LEN. -/
def resStrPort (s : State) (i : Nat) : Option Byte :=
  if strValid s && decide (i < s.resLen.toNat) then s.resStr[i]? else none

/-- One register of `res_cnt` (R34, R36). -/
def resCntPort (s : State) (i : Nat) : Option Half := if sampleValid s then s.resCnt[i]? else none

/-- `res_alarm` (R34, R36). -/
def resAlarmPort (s : State) : Option Byte := if sampleValid s then some s.resAlarm else none

/-- The typed result the host may read now (R16, R36): what the completed operation left in the registers it owns;
`.unit` for a completed operation that has none. -/
def hostResult (s : State) : Option Result :=
  if boolValid s then some (.bool s.resBool)
  else if byteValid s then some (.byte s.resByte)
  else if strValid s then some (.str (s.resStr.toList.take s.resLen.toNat))
  else if sampleValid s then some (.sample s.resCnt s.resAlarm)
  else if s.done && s.status == .ok && (s.op == 0x8#4 || s.op == 0x9#4) then some .unit
  else none

/-- `uart_tx` (R38, R39, R150): bit 0 of the transmit shift register. -/
def uartTx (s : State) : Bool := s.bit.txShift.getLsbD 0

end Sys2Proof.Machine
end

