-- ==== Sys2Proof/Safety.lean ====
section
/-! DEFINITION. What holds in every reachable state (spec/10_state.md R42, 20_memory.md R66, R69), and what a safe run is:
one that neither faults nor is refused. -/

namespace Sys2Proof

open Machine

/-- Every byte below RX_CNT has been stored (R26, R66). -/
def RxbufFilled (s : State) : Prop := ∀ i < s.rxCnt.toNat, (Memory.read s.rxbuf i).isSome

/-- The invariant of the engine. The clauses are those of R42 (a) to (e); (b) in every state but those in which OP and ARG
are no longer the command that last wrote TX_IDX, a non-device command or a device command rejected at its acceptance, and
in every state for the command that wrote it (log 29); and what keeps the transmit, receive and check steps defined (R66, R69, R191, R197). -/
structure Inv (s : State) : Prop where
  /-- the configuration is one the model accepts (R97, R205) -/
  cfgWf : s.cfg.wf = true
  /-- RXBUF keeps its canonical form, indices below 256 (R26) -/
  memWf : Memory.wf s.rxbuf = true
  /-- R42 (a) -/
  rxCntLe : s.rxCnt.toNat ≤ Config.rxThresh
  /-- R42 (b): from reset on, in every state but after a command that completed at its acceptance without an exchange, where
  R193 and R270 leave no TX_IDX that could satisfy it (log 29) -/
  txIdxLe : (s.done = true → isDeviceOp s.op = true ∧ argInRange s.op s.arg = true ∧ s.status ≠ .error .notOpened) →
    s.txIdx.toNat ≤ s.frame.length
  /-- R42 (b), R25: always, for the frame of some device command, the one that last wrote TX_IDX (log 29) -/
  txIdxOfFrame : ∃ op arg, isDeviceOp op = true ∧ s.txIdx.toNat ≤ (rom s.cfg op arg).length
  /-- in S_TX a byte is still to be sent (R198) -/
  txIdxLt : s.seq = .tx → s.txIdx.toNat < s.frame.length
  /-- in S_RX there is room for a byte (R200) -/
  rxCntLt : s.seq = .rx → s.rxCnt.toNat < Config.rxThresh
  /-- R42 (c) -/
  busyOpen : s.seq ≠ .idle → s.opened = true ∧ isDeviceOp s.op = true ∧ argInRange s.op s.arg = true
  /-- R42 (d) -/
  doneIdle : s.done = true → s.seq = .idle
  /-- R42 (e) -/
  idleTmrLe : s.idleTmr.toNat ≤ Config.tIdle
  /-- in S_RX the timer has not ended the read (R201) -/
  idleTmrLt : s.seq = .rx → s.idleTmr.toNat < Config.tIdle
  /-- R66 -/
  filled : RxbufFilled s

/-- A run of k steps is safe when it ends in a next state. -/
def SafeFor (k : Nat) (s : State) : Prop := ∃ t : State, core.run k s = .next t

end Sys2Proof
end

