-- ==== Sys2Proof/Certificates/Slice0/Obligations.lean ====
section
/-! DEFINITION. What is claimed of the model, each statement with the rule of spec/ it formalises. -/

open Sys2Proof Sys2Proof.Machine

namespace Sys2Proof.Claims

/-- The seven device commands (R110). -/
def deviceInstrs (a : Byte) : List Instr :=
  [.readSerialNo a, .readSwVersion a, .readCalibCoeff a, .setupCalibCoeff a, .openParticleMeasurement a,
   .closeParticleMeasurement a, .readParticleMeasurement a]

/-- The reserved commands (R112). -/
def reservedInstrs (a : Byte) : List Instr :=
  [.reserved0 a, .reservedB a, .reservedC a, .reservedD a, .reservedE a, .reservedF a]

/-- The command i is the one in flight: OP and ARG hold it (R24). -/
def InFlight (i : Instr) (s : State) : Prop :=
  isDeviceOp i.opcode = true ∧ s.op = i.opcode ∧ s.arg = i.operand

/-- The bytes RXBUF[0 .. RX_CNT - 1] of the exchange in flight are buf (R26, R66). -/
def Received (s : State) (buf : List Byte) : Prop := Memory.readRange s.rxbuf 0 s.rxCnt.toNat = some buf

/-- The 16-bit field {buf[a], buf[a+1]} (R13, R65). -/
def field (buf : List Byte) (a : Nat) : Half :=
  BitVec.ofNat 16 ((buf.getD a 0#8).toNat * 256 + (buf.getD (a + 1) 0#8).toNat)

/-- The state with another value in ARG. -/
def withArg (s : State) (b : Byte) : State := { s with arg := b }

/-- A change of state carried through an answer. -/
def mapNext (f : State → State) : Answer → Answer
  | .next s => .next (f s)
  | .fault r => .fault r
  | .refused r => .refused r

/-- The number that ASCII digits write, most significant first. -/
def numeralValue (ds : List Byte) : Nat := ds.foldl (fun n d => n * 10 + (d.toNat - 0x30)) 0

/-- Input ports at rest but for uart_rx (R38). -/
def quiet (rx : Bool) : Pins :=
  { rst := false, cmdValid := false, cmdOp := 0#4, cmdArg := 0#8, openOk := false, uartRx := rx }

/-- The receiver alone over a waveform of uart_rx, with the bytes it completes, oldest first (R153). -/
def receiverRun (div : Nat) : List Bool → BitState → BitState × List Byte
  | [], r => (r, [])
  | x :: xs, r =>
    let n := r.rxClock div x
    let m := receiverRun div xs n.1
    (m.1, n.2.toList ++ m.2)

end Sys2Proof.Claims

open Sys2Proof.Claims

/-! ## Encoding -/

/-- R110, R115: words written out from the opcode map, one for each kind of command; a word of more than 12 bits is no
command (log 23). -/
def Obligations.WordsOfTheOpcodeMapDecode : Prop :=
  decodeTableWord 16 0x100 = some (.openLine 0x00#8) ∧ decodeTableWord 16 0x2FF = some (.closeLine 0xFF#8) ∧
  decodeTableWord 16 0x300 = some (.isOpened 0x00#8) ∧ decodeTableWord 16 0x400 = some (.readSerialNo 0x00#8) ∧
  decodeTableWord 16 0x500 = some (.readSwVersion 0x00#8) ∧ decodeTableWord 16 0x600 = some (.readCalibCoeff 0x00#8) ∧
  decodeTableWord 16 0x764 = some (.setupCalibCoeff 100#8) ∧
  decodeTableWord 16 0x8FF = some (.openParticleMeasurement 0xFF#8) ∧
  decodeTableWord 16 0x900 = some (.closeParticleMeasurement 0x00#8) ∧
  decodeTableWord 16 0xA01 = some (.readParticleMeasurement 0x01#8) ∧
  decodeTableWord 16 0x000 = some (.reserved0 0x00#8) ∧ decodeTableWord 16 0xF00 = some (.reservedF 0x00#8) ∧
  decodeTableWord 16 0x1100 = none

/-- R110, R112: the 12-bit command words and the commands are the same thing: decoding an encoded command gives it back
and encoding a decoded word gives the word back, for all 4096 words, none of them unused. -/
def Obligations.DecodingAndEncodingAreInverse : Prop :=
  (∀ i : Instr, i.wf = true → decodeWord (encode i) = i) ∧ ∀ w : CommandWord, encode (decodeWord w) = w

/-- R110 with log 23: the decoder over bytes accepts exactly the two-byte forms of the commands. -/
def Obligations.ByteDecoderAcceptsExactlyTheEncodings : Prop :=
  ∀ (bs : List Byte) (i : Instr), decodeBytes bs = .ok i ↔ bs = encodeBytes i

/-! ## The step -/

/-- R192, R302, log 3, log 4: in S_IDLE the step is exec of the command presented, with its environment; while an
exchange is in flight it is exec of the command in OP and ARG; with nothing presented the engine waits. -/
def Obligations.StepRunsTheDecodedCommand : Prop :=
  ∀ s : State, s.cfg.wf = true → s.rstNow = false →
    (∀ c rest i, s.seq = .idle → s.host = c :: rest → decodeOp c.op c.arg = i →
      step s = exec i { s with rst := s.rst.tail, host := rest, openOk := c.openOk, line := c.stream }) ∧
    (∀ i, s.seq ≠ .idle → decodeOp s.op s.arg = i → step s = exec i { s with rst := s.rst.tail }) ∧
    (s.seq = .idle → s.host = [] → step s = .next { s with rst := s.rst.tail })

/-- Log 2: the word that `withFetchWord` places is the very next command, and it runs in the state as it was, in S_IDLE. -/
def Obligations.PlacedWordRunsNext : Prop :=
  ∀ (s : State) (w : Nat) (i : Instr), s.cfg.wf = true → decodeTableWord 16 w = some i →
    step (s.withFetchWord 16 w) = exec i { s with seq := .idle, rst := s.rst.tail }

/-- R97, R205: a configuration outside its bounds is refused, by both step functions. -/
def Obligations.BadConfigurationIsRefused : Prop :=
  ∀ (s : State) (p : Pins), s.cfg.wf = false →
    step s = .refused .badConfiguration ∧ clockStep p s = .refused .badConfiguration

/-! ## Reset -/

/-- R300, R43: reset wins over everything at both levels; every register with a stated reset value takes it, uart_tx is
1, no result is readable, no command is accepted; the parameters stay, and the model's own queue and record with them (log 5,
log 18). Of the bit level the spec states the divider, the transmit shifter and the waiting receive machine; that
`BitState.idle` also has 0 in the synchroniser, the edge register and the receive shift register is the model's choice
(log 19). -/
def Obligations.ResetWinsOverEverything : Prop :=
  ∀ (s : State) (p : Pins), s.cfg.wf = true → s.rstNow = true → p.rst = true →
    ∃ t, step s = .next t ∧ clockStep p s = .next { t with rst := s.rst } ∧
      t.opened = false ∧ t.seq = .idle ∧ t.op = 0#4 ∧ t.arg = 0#8 ∧ t.txIdx = 0#8 ∧ t.rxCnt = 0#9 ∧
      t.idleTmr = 0#10 ∧ t.done = false ∧ t.status.code = 0#4 ∧ t.bit = BitState.idle ∧ uartTx t = true ∧
      hostResult t = none ∧ t.host = s.host ∧ t.cfg = s.cfg ∧ t.txLine = s.txLine ∧ cmdReady true t = false

/-- R42, R43: the state right after reset meets the invariant. -/
def Obligations.ResetStateMeetsTheInvariant : Prop := Inv State.reset

/-! ## OPEN, CLOSE, IS_OPENED and the reserved opcodes -/

/-- R131, R132 (decision D19): OPEN takes `open_ok` into OPENED and RES_BOOL, on an open handle as on a closed one, and
reports Unknown when it is 0. Nothing else changes, and RES_BOOL is readable either way (R36). -/
def Obligations.OpenTakesThePlatformsAnswer : Prop :=
  ∀ (a : Byte) (s : State), s.seq = .idle →
    ∃ t, exec (.openLine a) s = .next t ∧
      t = { s with op := 0x1#4, arg := a, opened := s.openOk, resBool := s.openOk, done := true,
                   status := if s.openOk then .ok else .error .unknown } ∧
      resBoolPort t = some s.openOk

/-- R133 (decision D28): CLOSE cannot fail, closes the handle, and a second CLOSE changes nothing. -/
def Obligations.CloseSucceedsAndIsIdempotent : Prop :=
  ∀ (a : Byte) (s : State), s.seq = .idle →
    ∃ t, exec (.closeLine a) s = .next t ∧
      t = { s with op := 0x2#4, arg := a, opened := false, resBool := true, done := true, status := .ok } ∧
      resBoolPort t = some true ∧ exec (.closeLine a) t = .next t

/-- R135 (decision D2): IS_OPENED reports OPENED in RES_BOOL and changes nothing else. -/
def Obligations.IsOpenedReportsTheHandle : Prop :=
  ∀ (a : Byte) (s : State), s.seq = .idle →
    ∃ t, exec (.isOpened a) s = .next t ∧
      t = { s with op := 0x3#4, arg := a, resBool := s.opened, done := true, status := .ok } ∧
      resBoolPort t = some s.opened

/-- R112 (decision D20): each of RESERVED_0, RESERVED_B, RESERVED_C, RESERVED_D, RESERVED_E, RESERVED_F completes at once
with Unknown, open handle or closed, and changes nothing else. -/
def Obligations.ReservedOpcodesReportUnknown : Prop :=
  ∀ (a : Byte) (s : State), s.seq = .idle → ∀ i ∈ reservedInstrs a,
    exec i s = .next { s with op := i.opcode, arg := a, done := true, status := .error .unknown }

/-! ## Acceptance of the device commands -/

/-- R194: on a closed handle each device command reports NotOpened and changes nothing but OP, ARG, STATUS and DONE,
SETUP_CALIB_COEFF with any argument too; OPEN, CLOSE and IS_OPENED are not subject to the check. -/
def Obligations.ClosedHandleRejectsDeviceCommands : Prop :=
  ∀ (a : Byte) (s : State), s.seq = .idle → s.opened = false →
    (∀ i ∈ deviceInstrs a,
      exec i s = .next { s with op := i.opcode, arg := a, done := true, status := .error .notOpened }) ∧
    ∀ i ∈ [Instr.openLine a, Instr.closeLine a, Instr.isOpened a],
      ∃ t, exec i s = .next t ∧ t.status ≠ .error .notOpened

/-- R230, R114 (decision D10): on an open handle SETUP_CALIB_COEFF with v below 10 or above 250 reports Unknown without a
transaction; R270: nothing else changes. -/
def Obligations.CalibrationArgumentOutOfRangeIsRejected : Prop :=
  ∀ (v : Byte) (s : State), s.seq = .idle → s.opened = true → (v.toNat < 10 ∨ 250 < v.toNat) →
    exec (.setupCalibCoeff v) s =
      .next { s with op := 0x7#4, arg := v, done := true, status := .error .unknown }

/-- R193, R195 line 7, R196: on an open handle every device command starts its exchange, SETUP_CALIB_COEFF for v from 10
to 250; nothing but OP, ARG, DONE, TX_IDX and SEQ changes. -/
def Obligations.OpenHandleStartsTheExchange : Prop :=
  ∀ (a : Byte) (s : State), s.seq = .idle → s.opened = true → ∀ i ∈ deviceInstrs a,
    (i = .setupCalibCoeff a → 10 ≤ a.toNat ∧ a.toNat ≤ 250) →
    exec i s = .next { s with op := i.opcode, arg := a, done := false, txIdx := 0#8, seq := .tx }

/-- R192 (decision D1, log 3): while an exchange is in flight every other command is neither accepted nor remembered. -/
def Obligations.BusyEngineAcceptsNoOtherCommand : Prop :=
  ∀ (i : Instr) (s : State), s.seq ≠ .idle → ¬InFlight i s → exec i s = .next s

/-- R111 (decision D2): ARG has no effect on an exchange of any other command than SETUP_CALIB_COEFF. -/
def Obligations.ArgumentMattersOnlyToCalibrationSetup : Prop :=
  ∀ (s : State) (b : Byte), s.seq ≠ .idle → s.rstNow = false → s.op ≠ 0x7#4 →
    step (withArg s b) = mapNext (fun t => withArg t b) (step s)

/-! ## The exchange, phase by phase -/

/-- R197, R198: the transmit step puts F[TX_IDX] on the line and advances TX_IDX; after the last byte it opens the
capture window, with no character under way. Nothing else changes, but that the opening puts the bit-level registers to
`BitState.idle`, whose 0 in the synchroniser, the edge register and the receive shift register is the model's choice
(log 19). -/
def Obligations.TransmitStepSendsTheNextByte : Prop :=
  ∀ (i : Instr) (s : State) (b : Byte), InFlight i s → s.seq = .tx →
    (rom s.cfg s.op s.arg)[s.txIdx.toNat]? = some b →
    exec i s = .next
      (if s.txIdx.toNat + 1 = (rom s.cfg s.op s.arg).length then
        { s with txIdx := s.txIdx + 1#8, txLine := s.txLine ++ [b], rxCnt := 0#9, idleTmr := 0#10, seq := .rx,
                 bit := BitState.idle }
      else { s with txIdx := s.txIdx + 1#8, txLine := s.txLine ++ [b] })

/-- R199: a byte that completes in S_RX is stored as it is at index RX_CNT, whatever its value, RX_CNT goes up by one and
IDLE_TMR to 0; every other cell of RXBUF reads as before; no byte value ends the read early. -/
def Obligations.ReceiveStepStoresTheByteAtRxCnt : Prop :=
  ∀ (i : Instr) (s : State) (c : RxChar) (rest : List RxChar), InFlight i s → s.seq = .rx →
    s.rxCnt.toNat < 56 → s.line = c :: rest → (timerRuns s = true → c.gap < 960) →
    ∃ t, exec i s = .next t ∧ t.rxCnt.toNat = s.rxCnt.toNat + 1 ∧ t.idleTmr = 0#10 ∧
      Memory.read t.rxbuf s.rxCnt.toNat = some c.byte ∧
      (∀ a, a ≠ s.rxCnt.toNat → Memory.read t.rxbuf a = Memory.read s.rxbuf a) ∧
      (s.rxCnt.toNat + 1 < 56 → t.seq = .rx)

/-- R200, R202 (decision D13): the read ends exactly when the 56th byte is stored, and what the line still carries is
dropped (log 17); before that the engine stays in S_RX and the rest of the line still comes. No register but RXBUF, at
index RX_CNT, and RX_CNT, IDLE_TMR and SEQ changes, but that the closing of the window at the 56th byte puts the
bit-level registers to `BitState.idle`, whose 0 in the synchroniser, the edge register and the receive shift register is
the model's choice (log 19). -/
def Obligations.ReadEndsAtTheFiftySixthByte : Prop :=
  ∀ (i : Instr) (s : State) (c : RxChar) (rest : List RxChar), InFlight i s → s.seq = .rx →
    s.rxCnt.toNat < 56 → s.line = c :: rest → (timerRuns s = true → c.gap < 960) →
    exec i s = .next
      (if s.rxCnt.toNat = 55 then
        { s with rxbuf := Memory.write s.rxbuf s.rxCnt.toNat c.byte, rxCnt := s.rxCnt + 1#9, idleTmr := 0#10,
                 seq := .check, line := [], bit := BitState.idle }
      else
        { s with rxbuf := Memory.write s.rxbuf s.rxCnt.toNat c.byte, rxCnt := s.rxCnt + 1#9, idleTmr := 0#10,
                 line := rest })

/-- R201, R203, R266 (decisions D12, D15): when the timer runs and no byte completes with a gap below 960, the read ends;
RX_CNT and RXBUF keep what they hold. A gap of exactly 960 is inactivity. What the line still carries is dropped (R202,
log 17), and the closing puts the bit-level registers to `BitState.idle`, whose 0 in the synchroniser, the edge register
and the receive shift register is the model's choice (log 19). -/
def Obligations.InactivityEndsTheRead : Prop :=
  ∀ (i : Instr) (s : State), InFlight i s → s.seq = .rx → timerRuns s = true →
    (∀ c rest, s.line = c :: rest → 960 ≤ c.gap) →
    exec i s = .next { s with seq := .check, line := [], bit := BitState.idle, idleTmr := 960#10 }

/-- R28, R152, R155, R201 (decisions D12, D15): when the timer runs, and how it counts at the clock level. In S_RX, in a clk
cycle in which no byte completes, the divider counts on to DIV cycles, one bit period; at the end of the period IDLE_TMR
goes up by one if the timer runs and keeps its value if not, and on reaching 960 it ends the read as in
InactivityEndsTheRead (log 17, log 19). In every other state IDLE_TMR keeps its value, but that the opening of the window
clears it. The premise that IDLE_TMR is below 960 in S_RX is part of the invariant. With DIV 0 every clk cycle is a bit
period (the model's choice, log 31). -/
def Obligations.TimerRunsFromTheParametersMoment : Prop :=
  ∀ s : State,
    (timerRuns s = true ↔ s.cfg.idleStart = .atCaptureStart ∨ 0 < s.rxCnt.toNat) ∧
    (∀ p : Pins, s.cfg.wf = true → p.rst = false → s.seq = .rx → s.idleTmr.toNat < 960 →
      (s.bit.rxClock (bitDiv s.cfg) p.uartRx).2 = none →
      clockStep p s = .next
        (if s.bit.div + 1 < bitDiv s.cfg then
          { s with bit := { (s.bit.rxClock (bitDiv s.cfg) p.uartRx).1 with div := s.bit.div + 1 } }
        else if timerRuns s = false then
          { s with bit := { (s.bit.rxClock (bitDiv s.cfg) p.uartRx).1 with div := 0 } }
        else if s.idleTmr = 959#10 then
          { s with seq := .check, line := [], bit := BitState.idle, idleTmr := 960#10 }
        else
          { s with bit := { (s.bit.rxClock (bitDiv s.cfg) p.uartRx).1 with div := 0 }, idleTmr := s.idleTmr + 1#10 })) ∧
    (∀ (p : Pins) (t : State), p.rst = false → s.seq ≠ .rx → clockStep p s = .next t →
      t.idleTmr = s.idleTmr ∨ (s.seq = .tx ∧ t.seq = .rx ∧ t.idleTmr = 0#10))

/-- R204: a validation error is passed on unchanged, for every device command; nothing but STATUS, DONE and SEQ changes
(R270). -/
def Obligations.ValidationErrorIsReported : Prop :=
  ∀ (i : Instr) (s : State) (buf : List Byte) (e : ErrorKind), InFlight i s → s.seq = .check → Received s buf →
    validate buf (minLen s.cfg i.opcode) = .error e →
    exec i s = .next { s with status := .error e, done := true, seq := .idle }

/-! ## The results of the device operations -/

/-- R222, R33: READ_SERIAL_NO writes the joined numerals of the five fields at indices 3, 5, 7, 9, 11, or "0" when all
are zero; 1 to 25 digits, and the host reads exactly them. Nothing else changes but STATUS, DONE, SEQ and the
model's counter of free values (log 9). -/
def Obligations.SerialNumberIsDecoded : Prop :=
  ∀ (a : Byte) (s : State) (buf : List Byte) (v : View), InFlight (.readSerialNo a) s → s.seq = .check →
    Received s buf → validate buf 14 = .ok v →
    ∃ t str, exec (.readSerialNo a) s = .next t ∧
      str = dec (field buf 3) ++ dec (field buf 5) ++ dec (field buf 7) ++ dec (field buf 9) ++ dec (field buf 11) ∧
      hostResult t = some (.str (if str = [] then [0x30#8] else str)) ∧
      1 ≤ t.resLen.toNat ∧ t.resLen.toNat ≤ 25 ∧
      t = { s with resStr := t.resStr, resLen := t.resLen, free := t.free, status := .ok, done := true, seq := .idle }

/-- R226: READ_SW_VERSION copies the 13 bytes at indices 3 to 15 raw. Nothing else changes but STATUS, DONE, SEQ and the
model's counter of free values (log 9). -/
def Obligations.VersionIsCopiedRaw : Prop :=
  ∀ (a : Byte) (s : State) (buf : List Byte) (v : View), InFlight (.readSwVersion a) s → s.seq = .check →
    Received s buf → validate buf 17 = .ok v →
    ∃ t, exec (.readSwVersion a) s = .next t ∧
      hostResult t = some (.str ((buf.drop 3).take 13)) ∧ t.resLen.toNat = 13 ∧
      t = { s with resStr := t.resStr, resLen := t.resLen, free := t.free, status := .ok, done := true, seq := .idle }

/-- R228, R230 (decisions D9, D22): READ_CALIB_COEFF and SETUP_CALIB_COEFF return the byte at index 3 as it is, neither
range-checked nor compared with v, under every admissible minimum length. -/
def Obligations.CalibrationByteIsReturnedUnchecked : Prop :=
  ∀ (a : Byte) (s : State) (buf : List Byte) (v : View), s.cfg.wf = true → s.seq = .check → Received s buf →
    (InFlight (.readCalibCoeff a) s → validate buf s.cfg.minlenRcal = .ok v →
      exec (.readCalibCoeff a) s =
        .next { s with resByte := buf.getD 3 0#8, status := .ok, done := true, seq := .idle }) ∧
    (InFlight (.setupCalibCoeff a) s → validate buf s.cfg.minlenScal = .ok v →
      exec (.setupCalibCoeff a) s =
        .next { s with resByte := buf.getD 3 0#8, status := .ok, done := true, seq := .idle })

/-- R232, R234 (decision D6): the discriminator at index 3 decides OPEN_PARTICLE_MEASUREMENT (0x02) and
CLOSE_PARTICLE_MEASUREMENT (0x01); any other value is MeasureNotOpened or MeasureNotClosed. No result register changes. -/
def Obligations.DiscriminatorDecidesTheMeasurementCommands : Prop :=
  ∀ (a : Byte) (s : State) (buf : List Byte) (v : View), s.seq = .check → Received s buf → validate buf 5 = .ok v →
    (InFlight (.openParticleMeasurement a) s →
      exec (.openParticleMeasurement a) s =
        .next { s with status := if buf.getD 3 0#8 = 0x02#8 then .ok else .error .measureNotOpened,
                       done := true, seq := .idle }) ∧
    (InFlight (.closeParticleMeasurement a) s →
      exec (.closeParticleMeasurement a) s =
        .next { s with status := if buf.getD 3 0#8 = 0x01#8 then .ok else .error .measureNotClosed,
                       done := true, seq := .idle })

/-- R236 (decision D21): READ_PARTICLE_MEASUREMENT writes the six counts at indices 3, 5, 7, 9, 11, 13 and the alarm byte
at index 15, under every admissible minimum length; nothing else changes but STATUS, DONE and SEQ. -/
def Obligations.MeasurementIsDecoded : Prop :=
  ∀ (a : Byte) (s : State) (buf : List Byte) (v : View), s.cfg.wf = true →
    InFlight (.readParticleMeasurement a) s → s.seq = .check → Received s buf →
    validate buf s.cfg.minlenRmeas = .ok v →
    exec (.readParticleMeasurement a) s =
      .next { s with
        resCnt := #v[field buf 3, field buf 5, field buf 7, field buf 9, field buf 11, field buf 13]
        resAlarm := buf.getD 15 0#8, status := .ok, done := true, seq := .idle }

/-- R221 (decision D17): `Dec(f)` is the decimal numeral of f: digits only, no leading zero, at most five, their value f;
nothing for 0. -/
def Obligations.DecimalNumeralOfAField : Prop :=
  ∀ f : Half, numeralValue (dec f) = f.toNat ∧ (∀ d ∈ dec f, 0x30 ≤ d.toNat ∧ d.toNat ≤ 0x39) ∧
    (dec f).head? ≠ some 0x30#8 ∧ (dec f).length ≤ 5 ∧ (dec f = [] ↔ f = 0#16)

/-- R220, R99: a decoder looks at its own field indices only, from 3 to two below the minimum length 14, 17, 5, 5, 5, 5,
17; so not at the head, the len byte or CMD. A frame shorter than the minimum has its checksum among these indices, and
there the decoder reads it as data (R169). -/
def Obligations.DecodersReadOnlyTheirFields : Prop :=
  ∀ (op : Opcode) (buf buf' : List Byte),
    (∀ k, 3 ≤ k → k + 2 ≤ minLen Config.default op → buf[k]? = buf'[k]?) → decoderOf op buf = decoderOf op buf'

/-! ## Checksum and Validate -/

/-- R160: the checksum is (256 - (sum mod 256)) mod 256, which is the negation of the 8-bit sum with every carry dropped;
0 for the empty sequence. In a frame with len byte L it lies at index L + 2, over the indices 0 to L + 1. -/
def Obligations.ChecksumNegatesTheByteSum : Prop :=
  (∀ bs : List Byte, (checksum bs).toNat = (256 - (bs.map BitVec.toNat).sum % 256) % 256 ∧
    checksum bs = - bs.foldl (· + ·) 0#8) ∧ checksum [] = 0#8 ∧
  ∀ (buf : List Byte) (n : Nat) (v : View), validate buf n = .ok v →
    buf[(buf.getD 1 0#8).toNat + 2]? = some (checksum (buf.take ((buf.getD 1 0#8).toNat + 2)))

/-- R161: a byte is the checksum exactly when all bytes with it sum to 0 modulo 256. -/
def Obligations.ChecksumMakesTheFrameSumZero : Prop :=
  ∀ (bs : List Byte) (c : Byte), c = checksum bs ↔ ((bs ++ [c]).map BitVec.toNat).sum % 256 = 0

/-- R165: Validate's five steps, each with the conditions under which it is reached. -/
def Obligations.ValidateFollowsItsSteps : Prop :=
  ∀ (buf : List Byte) (n : Nat),
    (buf.length < 2 → validate buf n = .error .insufficientData) ∧
    (2 ≤ buf.length →
      (buf.length < (buf.getD 1 0#8).toNat + 3 → validate buf n = .error .insufficientData) ∧
      ((buf.getD 1 0#8).toNat + 3 ≤ buf.length →
        (buf.getD 0 0#8 ≠ 0x16#8 → validate buf n = .error .rxHeader) ∧
        (buf.getD 0 0#8 = 0x16#8 →
          (checksum (buf.take ((buf.getD 1 0#8).toNat + 2)) ≠ buf.getD ((buf.getD 1 0#8).toNat + 2) 0#8 →
            validate buf n = .error .checksum) ∧
          (checksum (buf.take ((buf.getD 1 0#8).toNat + 2)) = buf.getD ((buf.getD 1 0#8).toNat + 2) 0#8 →
            (buf.length < n → validate buf n = .error .insufficientData) ∧
            (n ≤ buf.length →
              validate buf n = .ok { offset := 2, length := (buf.getD 1 0#8).toNat })))))

/-- R168: in a response that validates, altering the head makes it fail RxHeader, and altering any one other byte of the
declared frame but the len byte makes it fail Checksum. -/
def Obligations.OneAlteredByteIsDetected : Prop :=
  ∀ (buf : List Byte) (n : Nat) (v : View) (k : Nat) (b : Byte), validate buf n = .ok v →
    buf[k]? ≠ some b → k < v.length + 3 →
    (k = 0 → validate (buf.set k b) n = .error .rxHeader) ∧
    (2 ≤ k → validate (buf.set k b) n = .error .checksum)

/-- R169, R170: bytes after the declared frame take no part, and more of them never turn a success into a failure. -/
def Obligations.BytesAfterTheFrameAreIgnored : Prop :=
  ∀ (buf more : List Byte) (n : Nat) (v : View), validate buf n = .ok v →
    validate (buf ++ more) n = .ok v ∧ v.length + 3 ≤ buf.length ∧
    ∀ tail, n ≤ v.length + 3 + tail.length → validate (buf.take (v.length + 3) ++ tail) n = .ok v

/-- R312, R113 (b): a response whose len byte is 54 or more ends every device command with InsufficientData, whatever
else was received. -/
def Obligations.LongResponsesNeverValidate : Prop :=
  ∀ (i : Instr) (s : State) (buf : List Byte), InFlight i s → s.seq = .check → Received s buf →
    s.rxCnt.toNat ≤ 56 → 54 ≤ (buf.getD 1 0#8).toNat →
    exec i s = .next { s with status := .error .insufficientData, done := true, seq := .idle }

/-! ## Request frames -/

/-- R61: the template ROM, row by row; the argument changes only the entry of SETUP_CALIB_COEFF; under an admissible
configuration every entry is a well-formed request frame. -/
def Obligations.TemplateRomHoldsTheRequestFrames : Prop :=
  ∀ (cfg : Config) (v w : Byte),
    rom cfg 0x4#4 v = [0x11#8, 0x01#8, 0x1F#8, 0xCF#8] ∧ rom cfg 0x5#4 v = [0x11#8, 0x01#8, 0x1E#8, 0xD0#8] ∧
    rom cfg 0x8#4 v = [0x11#8, 0x03#8, 0x0C#8, 0x02#8, 0x1E#8, 0xC0#8] ∧
    rom cfg 0x9#4 v = [0x11#8, 0x03#8, 0x0C#8, 0x01#8, 0x1E#8, 0xC1#8] ∧
    rom cfg 0x6#4 v = cfg.reqRcal ∧ rom cfg 0x7#4 v = reqScal cfg v ∧ rom cfg 0xA#4 v = cfg.reqRmeas ∧
    (∀ op : Opcode, op ≠ 0x7#4 → rom cfg op v = rom cfg op w) ∧
    ∀ op : Opcode, cfg.wf = true → isDeviceOp op = true → Config.frameWf (rom cfg op v) = true

/-- R175, R97, R91: every request frame of an admissible configuration is well formed: 4 to 255 bytes, head 0x11, the
length byte, and all its bytes sum to 0 modulo 256. -/
def Obligations.EveryRequestIsAWellFormedFrame : Prop :=
  ∀ (cfg : Config) (op : Opcode) (v : Byte), cfg.wf = true → isDeviceOp op = true →
    4 ≤ (rom cfg op v).length ∧ (rom cfg op v).length ≤ 255 ∧ (rom cfg op v)[0]? = some 0x11#8 ∧
    ((rom cfg op v).getD 1 0#8).toNat = (rom cfg op v).length - 3 ∧
    ((rom cfg op v).map BitVec.toNat).sum % 256 = 0

/-- R96 (decision D11): v appears in the frame of SETUP_CALIB_COEFF as one data byte and changes the checksum byte by
its negation, and no other byte. -/
def Obligations.CalibrationFrameCarriesItsArgument : Prop :=
  ∀ (cfg : Config) (v : Byte), cfg.wf = true →
    (reqScal cfg v).length = (reqScal cfg 0#8).length ∧ (reqScal cfg v)[cfg.scalPos]? = some v ∧
    (reqScal cfg v).getLast? = (reqScal cfg 0#8).getLast?.map (· - v) ∧
    ∀ k, k ≠ cfg.scalPos → k + 1 ≠ (reqScal cfg v).length → (reqScal cfg v)[k]? = (reqScal cfg 0#8)[k]?

/-! ## Frames over all instructions -/

/-- R22, R284: OPENED changes only by OPEN and CLOSE. -/
def Obligations.OnlyOpenAndCloseChangeTheHandle : Prop :=
  ∀ (i : Instr) (s t : State), exec i s = .next t → t.opened ≠ s.opened → i.opcode = 0x1#4 ∨ i.opcode = 0x2#4

/-- R26, R68: RXBUF is written only by the receive step, at index RX_CNT: for every instruction, every other cell reads
as before. -/
def Obligations.OnlyTheReceiveStepWritesRxbuf : Prop :=
  ∀ (i : Instr) (s t : State) (a : Nat), exec i s = .next t → (s.seq = .rx → a ≠ s.rxCnt.toNat) →
    Memory.read t.rxbuf a = Memory.read s.rxbuf a

/-- R31 to R34: a result register changes only by a command of its own operation, and but for OPEN only when that command
completes with success in this step; OPEN, CLOSE and IS_OPENED change RES_BOOL only by completing. -/
def Obligations.ResultRegistersAreWrittenByTheirOwnCommands : Prop :=
  ∀ (i : Instr) (s t : State), exec i s = .next t →
    (t.resBool ≠ s.resBool → t.done = true ∧ (t.status = .ok ∨ i.opcode = 0x1#4) ∧
      (i.opcode = 0x1#4 ∨ i.opcode = 0x2#4 ∨ i.opcode = 0x3#4)) ∧
    (t.resByte ≠ s.resByte → t.done = true ∧ t.status = .ok ∧ (i.opcode = 0x6#4 ∨ i.opcode = 0x7#4)) ∧
    ((t.resStr ≠ s.resStr ∨ t.resLen ≠ s.resLen) →
      t.done = true ∧ t.status = .ok ∧ (i.opcode = 0x4#4 ∨ i.opcode = 0x5#4)) ∧
    ((t.resCnt ≠ s.resCnt ∨ t.resAlarm ≠ s.resAlarm) → t.done = true ∧ t.status = .ok ∧ i.opcode = 0xA#4)

/-- R24, R10: no instruction changes the parameters, the host's queue or the level of `open_ok`; OP, ARG and OPENED keep
their values from acceptance to completion. R25, R196, R197, R270: the acceptance sets TX_IDX to 0 when it starts an
exchange, and a command that completes there leaves TX_IDX as it is (log 29); after that TX_IDX keeps its value or, in
S_TX, goes up by one, which under an admissible configuration never brings it back to 0. -/
def Obligations.LatchedCommandIsKeptToCompletion : Prop :=
  ∀ (i : Instr) (s t : State), exec i s = .next t →
    t.cfg = s.cfg ∧ t.host = s.host ∧ t.openOk = s.openOk ∧ t.rst = s.rst ∧
    (s.seq ≠ .idle → t.op = s.op ∧ t.arg = s.arg ∧ t.opened = s.opened ∧
      (t.txIdx = s.txIdx ∨
        (s.seq = .tx ∧ t.txIdx = s.txIdx + 1#8 ∧ (s.cfg.wf = true → t.txIdx ≠ 0#8)))) ∧
    (s.seq = .idle → t.op = i.opcode ∧ t.arg = i.operand ∧
      (t.seq ≠ .idle → t.seq = .tx ∧ t.txIdx = 0#8) ∧ (t.seq = .idle → t.done = true ∧ t.txIdx = s.txIdx))

/-- R191: every step without reset follows the state graph of SEQ, for the reason the graph names: first the steps that
change SEQ, from any state; then, from a state that meets the invariant, the steps that keep it. In S_IDLE the command
completes at once or none is presented, in S_TX more bytes remain, in S_RX a byte below the 56th is stored or the line is
silent and the timer does not run (log 26), and S_CHECK is always left. -/
def Obligations.SequencerFollowsItsStateGraph : Prop :=
  ∀ s t : State, step s = .next t → s.rstNow = false →
    (t.seq ≠ s.seq →
      (s.seq = .idle ∧ t.seq = .tx ∧ s.opened = true ∧ isDeviceOp t.op = true ∧ argInRange t.op t.arg = true) ∨
      (s.seq = .tx ∧ t.seq = .rx ∧ t.txIdx.toNat = s.frame.length) ∨
      (s.seq = .rx ∧ t.seq = .check ∧ (t.rxCnt.toNat = 56 ∨ t.idleTmr = 960#10)) ∨
      (s.seq = .check ∧ t.seq = .idle ∧ t.done = true)) ∧
    (Inv s →
      (s.seq = .idle → t.seq = .idle → t.done = true ∨ (s.host = [] ∧ t = s.tick)) ∧
      (s.seq = .tx → t.seq = .tx → t.txIdx.toNat = s.txIdx.toNat + 1 ∧ t.txIdx.toNat < s.frame.length) ∧
      (s.seq = .rx → t.seq = .rx →
        (t.rxCnt.toNat = s.rxCnt.toNat + 1 ∧ t.rxCnt.toNat < 56) ∨
          (s.line = [] ∧ timerRuns s = false ∧ t = s.tick)) ∧
      (s.seq = .check → t.seq = .idle))

/-- R210, R202: half duplex: a step that puts a byte on the line is a transmit step and stores nothing; a step that stores
a byte is a receive step and sends nothing. -/
def Obligations.EngineIsHalfDuplex : Prop :=
  ∀ s t : State, step s = .next t → s.rstNow = false →
    (t.txLine ≠ s.txLine → s.seq = .tx ∧ t.rxbuf = s.rxbuf ∧
      ∃ b, s.frame[s.txIdx.toNat]? = some b ∧ t.txLine = s.txLine ++ [b]) ∧
    (t.rxbuf ≠ s.rxbuf → s.seq = .rx ∧ t.txLine = s.txLine)

/-- R36, R270: after an error, while an exchange is in flight and before the first command no result register has a
meaning for the host, whatever the command was; but RES_BOOL has one after an OPEN that failed with Unknown. -/
def Obligations.NoResultIsReadableWithoutSuccess : Prop :=
  ∀ s : State, (s.done = false ∨ s.status ≠ .ok) →
    resBytePort s = none ∧ resLenPort s = none ∧ resAlarmPort s = none ∧
    (∀ k, resStrPort s k = none ∧ resCntPort s k = none) ∧
    (s.done = false ∨ s.op ≠ 0x1#4 ∨ s.status ≠ .error .unknown → resBoolPort s = none ∧ hostResult s = none)

/-- R38, R36, R260, R23: the output ports. `cmd_ready`, `busy`, `opened`, `done` and `status` always show what R38 says,
STATUS in the codes 0 to 7 of R260 and SEQ in the codes of R23; a result port answers exactly when R36's table makes its
register valid, and then it answers the register. -/
def Obligations.OutputPortsShowTheRegisters : Prop :=
  ∀ s : State,
    ((∀ rst, cmdReady rst s = true ↔ s.seq = .idle ∧ rst = false) ∧ (busyPort s = true ↔ s.seq ≠ .idle) ∧
      openedPort s = s.opened ∧ donePort s = s.done) ∧
    ((statusPort s = 0#4 ↔ s.status = .ok) ∧ (statusPort s = 1#4 ↔ s.status = .error .rxHeader) ∧
      (statusPort s = 2#4 ↔ s.status = .error .insufficientData) ∧ (statusPort s = 3#4 ↔ s.status = .error .checksum) ∧
      (statusPort s = 4#4 ↔ s.status = .error .notOpened) ∧ (statusPort s = 5#4 ↔ s.status = .error .measureNotOpened) ∧
      (statusPort s = 6#4 ↔ s.status = .error .measureNotClosed) ∧ (statusPort s = 7#4 ↔ s.status = .error .unknown)) ∧
    ((s.seq.code = 0#2 ↔ s.seq = .idle) ∧ (s.seq.code = 1#2 ↔ s.seq = .tx) ∧ (s.seq.code = 2#2 ↔ s.seq = .rx) ∧
      (s.seq.code = 3#2 ↔ s.seq = .check)) ∧
    (∀ b, resBoolPort s = some b ↔ s.done = true ∧ b = s.resBool ∧
      ((s.status = .ok ∧ (s.op = 0x1#4 ∨ s.op = 0x2#4 ∨ s.op = 0x3#4)) ∨
        (s.status = .error .unknown ∧ s.op = 0x1#4))) ∧
    (∀ b, resBytePort s = some b ↔
      s.done = true ∧ s.status = .ok ∧ (s.op = 0x6#4 ∨ s.op = 0x7#4) ∧ b = s.resByte) ∧
    (∀ n, resLenPort s = some n ↔ s.done = true ∧ s.status = .ok ∧ (s.op = 0x4#4 ∨ s.op = 0x5#4) ∧ n = s.resLen) ∧
    (∀ k b, resStrPort s k = some b ↔ s.done = true ∧ s.status = .ok ∧ (s.op = 0x4#4 ∨ s.op = 0x5#4) ∧
      k < s.resLen.toNat ∧ s.resStr[k]? = some b) ∧
    (∀ k n, resCntPort s k = some n ↔ s.done = true ∧ s.status = .ok ∧ s.op = 0xA#4 ∧ s.resCnt[k]? = some n) ∧
    (∀ b, resAlarmPort s = some b ↔ s.done = true ∧ s.status = .ok ∧ s.op = 0xA#4 ∧ b = s.resAlarm)

/-! ## Invariants and runs -/

/-- R42, R66, R69: every step of the byte level keeps the invariant. -/
def Obligations.EveryStepKeepsTheInvariant : Prop := ∀ s t : State, Inv s → step s = .next t → Inv t

/-- R66, R69, R191: from a state that meets the invariant no run faults or is refused, however long. -/
def Obligations.RunsNeverStop : Prop := ∀ (s : State) (k : Nat), Inv s → SafeFor k s

/-- R207, R208: a command presented in S_IDLE runs to completion with exactly the bytes sent, OPENED, STATUS and result
that the one function of the command gives; the engine is then idle with DONE set. -/
def Obligations.CommandRunsToItsEffect : Prop :=
  ∀ (s : State) (c : Command) (rest : List Command) (e : Effect), s.cfg.wf = true → s.seq = .idle → s.rst = [] →
    s.host = c :: rest → commandEffect s.cfg s.opened c = some e →
    ∃ (k : Nat) (t : State), core.run k s = .next t ∧ t.seq = .idle ∧ t.done = true ∧ t.opened = e.opened ∧
      t.txLine = s.txLine ++ e.sent ∧ t.status = e.status ∧ hostResult t = e.result ∧
      t.op = c.op ∧ t.arg = c.arg ∧ t.host = rest ∧ t.rst = [] ∧ t.cfg = s.cfg

/-- R208, R209, R66: under every admissible configuration each command has an effect, no decoder ever reading beyond the
bytes received, but for exactly one case: an exchange on a silent line whose timer does not run. -/
def Obligations.EveryCommandHasAnEffect : Prop :=
  ∀ (cfg : Config) (opened : Bool) (c : Command), cfg.wf = true →
    ((∃ e, commandEffect cfg opened c = some e) ↔
      ¬(opened = true ∧ isDeviceOp c.op = true ∧ argInRange c.op c.arg = true ∧
        cfg.idleStart = .atFirstByte ∧ c.stream = []))

/-- R208: a sequence of commands is the fold of the one function: nothing but OPENED links them. -/
def Obligations.CommandSequenceIsAFold : Prop :=
  ∀ (s : State) (es : List Effect), s.cfg.wf = true → s.seq = .idle → s.rst = [] →
    commandEffects s.cfg s.opened s.host = some es →
    ∃ (k : Nat) (t : State), core.run k s = .next t ∧ t.seq = .idle ∧ t.host = [] ∧
      t.txLine = s.txLine ++ (es.map Effect.sent).flatten ∧
      t.opened = (es.getLast?.map Effect.opened).getD s.opened ∧
      ∀ e, es.getLast? = some e → t.done = true ∧ t.status = e.status ∧ hostResult t = e.result

/-- R203: the receive steps from the opening of the window store exactly Capture of the line's answer. -/
def Obligations.ReadStoresTheCapturedBytes : Prop :=
  ∀ (s : State) (buf : List Byte), s.cfg.wf = true → s.seq = .rx → s.rxCnt = 0#9 → s.rst = [] →
    isDeviceOp s.op = true → capture s.cfg.idleStart s.line = some buf →
    ∃ (k : Nat) (t : State), core.run k s = .next t ∧ t.seq = .check ∧ Received t buf ∧ buf.length ≤ 56

/-- R209 (decision D12): with the timer running from the window's opening, every exchange completes within 312 steps: at
most 255 request bytes, 56 receive steps and one check. -/
def Obligations.EveryExchangeCompletes : Prop :=
  ∀ s : State, Inv s → s.cfg.idleStart = .atCaptureStart → s.rst = [] → s.seq ≠ .idle →
    ∃ (k : Nat) (t : State), k ≤ 312 ∧ core.run k s = .next t ∧ t.seq = .idle ∧ t.done = true ∧ t.opened = true

/-- R209, R322 (decision D12): with the timer running from the first byte only, a silent line keeps the engine in S_RX
for ever. -/
def Obligations.SilentLineHangsWithoutTheTimer : Prop :=
  ∀ (s : State) (k : Nat), s.cfg.wf = true → s.cfg.idleStart = .atFirstByte → s.rst = [] → s.seq = .rx →
    s.rxCnt = 0#9 → s.line = [] → isDeviceOp s.op = true → core.run k s = .next s

/-! ## The clock level -/

/-- R38, R192, R202: an input port has an effect only where it is sampled: `cmd_valid`, `cmd_op`, `cmd_arg` and `open_ok`
only in S_IDLE, `uart_rx` only in S_RX, and `cmd_op`, `cmd_arg`, `open_ok` only with `cmd_valid`. And there they have it: a
clk cycle in S_IDLE with `cmd_valid` 1 and `rst` 0 is exec of (`cmd_op`, `cmd_arg`) with the sampled `open_ok`, after
which the first request character begins (the model's choice, log 21); without `cmd_valid` nothing changes. -/
def Obligations.InputPortsAreSampledOnlyInTheirStates : Prop :=
  (∀ (p q : Pins) (s : State), p.rst = q.rst →
    ((s.seq ≠ .idle ∨ (p.cmdValid = false ∧ q.cmdValid = false) ∨
        (p.cmdValid = q.cmdValid ∧ p.cmdOp = q.cmdOp ∧ p.cmdArg = q.cmdArg ∧ p.openOk = q.openOk)) ∧
      (s.seq ≠ .rx ∨ p.uartRx = q.uartRx)) →
    clockStep p s = clockStep q s) ∧
  ∀ (p : Pins) (s : State), s.cfg.wf = true → p.rst = false → s.seq = .idle →
    (p.cmdValid = true → ∃ t, exec (decodeOp p.cmdOp p.cmdArg) { s with openOk := p.openOk } = .next t ∧
      clockStep p s = .next t.loadChar) ∧
    (p.cmdValid = false → clockStep p s = .next s)

/-- R42, R66, R191 at the clock level: a clk cycle from a state that meets the invariant answers a next state, and that
state meets it. -/
def Obligations.EveryClockCycleKeepsTheInvariant : Prop :=
  ∀ (p : Pins) (s : State), Inv s → ∃ t, clockStep p s = .next t ∧ Inv t

/-- R150, R151, R152, R197 (decision D16): a loaded character is on uart_tx for DIV cycles a level, start bit, data bits
from bit 0 up, stop bit; after 10 x DIV cycles the byte-level transmit step has been made. That the next character, if
there is one, is loaded in that same cycle (`loadNext`) is the model's choice: R140 and R197 leave it open (log 21); so are
the zeros of `BitState.idle` in the receiver's registers (log 19). -/
def Obligations.TransmitterSendsTheCharacter : Prop :=
  ∀ (s : State) (b : Byte), s.cfg.wf = true → s.seq = .tx → 0 < bitDiv s.cfg →
    s.frame[s.txIdx.toNat]? = some b → s.bit = BitState.idle.load b →
    (∀ k, k < 10 * bitDiv s.cfg → ∃ t, clockRun (List.replicate k (quiet true)) s = .next t ∧
      (charLevels b)[k / bitDiv s.cfg]? = some (uartTx t)) ∧
    clockRun (List.replicate (10 * bitDiv s.cfg) (quiet true)) s =
      loadNext (transmit { s with bit := BitState.idle })

/-- R153, R151 (decision D16): the receiver, waiting on an idle line, recovers every byte from its waveform of DIV cycles
a level, and is waiting again with the line idle. -/
def Obligations.ReceiverRecoversTheCharacter : Prop :=
  ∀ (div : Nat) (b : Byte) (r : BitState), 16 ≤ div →
    r.rxPhase = .waiting → r.sync0 = true → r.sync1 = true → r.rxPrev = true →
    ∃ t, receiverRun div ((charLevels b).flatMap (List.replicate div)) r = (t, [b]) ∧
      t.rxPhase = .waiting ∧ t.sync0 = true ∧ t.sync1 = true ∧ t.rxPrev = true

/-- R153, R155, R199 to R201, R266 (a) (decisions D13, D15): a byte that the receiver completes in S_RX is handed to the
receive step in the same clk cycle, whatever IDLE_TMR holds, with the read's end at the 56th byte; but a byte that completes
in the cycle in which the timer reaches 960 is dropped, and the read ends as in InactivityEndsTheRead (log 17, log 19). The
model's choice (log 20) is that a byte that completes earlier in that last bit period is stored, as R155 has it ("stored
exactly when that gap is below 960 bit periods"), while the words of R201 and R266 (a), "in the same bit period", taken
literally would drop it, and that the divider starts anew at a stored byte. With DIV 0 every clk cycle is a bit period (the
model's choice, log 31). The premises on RX_CNT and IDLE_TMR are part of the invariant. -/
def Obligations.TimerWinsOverASimultaneousByte : Prop :=
  ∀ (s : State) (p : Pins) (b : Byte), s.cfg.wf = true → p.rst = false → s.seq = .rx → s.rxCnt.toNat < 56 →
    s.idleTmr.toNat < 960 → (s.bit.rxClock (bitDiv s.cfg) p.uartRx).2 = some b →
    clockStep p s = .next
      (if timerRuns s = true ∧ s.idleTmr = 959#10 ∧ bitDiv s.cfg ≤ s.bit.div + 1 then
        { s with seq := .check, line := [], bit := BitState.idle, idleTmr := 960#10 }
      else if s.rxCnt.toNat = 55 then
        { s with rxbuf := Memory.write s.rxbuf s.rxCnt.toNat b, rxCnt := s.rxCnt + 1#9, idleTmr := 0#10,
                 seq := .check, line := [], bit := BitState.idle }
      else
        { s with rxbuf := Memory.write s.rxbuf s.rxCnt.toNat b, rxCnt := s.rxCnt + 1#9, idleTmr := 0#10,
                 bit := { (s.bit.rxClock (bitDiv s.cfg) p.uartRx).1 with div := 0 } })
end

