-- ==== Sys2Proof/Laws/Codec.lean ====
section
/-! SUPPORT. The laws of the checksum, of Validate and of the template ROM, each said once. -/

namespace Sys2Proof.Machine

theorem byteSum_append (a b : List Byte) : byteSum (a ++ b) = byteSum a + byteSum b := by
  induction a with
  | nil => simp [byteSum]
  | cons x xs ih => simp [byteSum, ih]; omega

/-- Replacing one byte changes the sum by the difference. -/
theorem byteSum_set (l : List Byte) (k : Nat) (b : Byte) (h : k < l.length) :
    byteSum (l.set k b) + l[k].toNat = byteSum l + b.toNat := by
  induction l generalizing k with
  | nil => simp at h
  | cons x xs ih =>
    cases k with
    | zero => simp [byteSum]; omega
    | succ k => simp at h; have := ih k h; simp [byteSum]; omega

theorem checksum_toNat (bs : List Byte) : (checksum bs).toNat = (256 - byteSum bs % 256) % 256 := by simp [checksum]

/-- What a successful Validate says of the buffer. -/
theorem validate_ok {buf : List Byte} {n : Nat} {v : View} (h : validate buf n = .ok v) :
    2 ≤ buf.length ∧ v.length = (buf.getD 1 0#8).toNat ∧ v.offset = 2 ∧ v.length + 3 ≤ buf.length ∧
      buf.getD 0 0#8 = Config.headRsp ∧ buf[v.length + 2]? = some (checksum (buf.take (v.length + 2))) ∧
      n ≤ buf.length := by
  unfold validate at h
  split at h
  · next hd l tl =>
    simp only at h
    split at h
    · cases h
    next h1 =>
    split at h
    · cases h
    next h2 =>
    split at h
    · cases h
    next h3 =>
    split at h
    · cases h
    next h4 =>
    simp at h; subst h
    simp only [declaredLength, byteAt] at h1 h3
    simp [Config.headRsp] at h2
    simp at h1 h3 h4
    subst h2; simp; exact ⟨by omega, h3, by omega⟩
  · cases h

/-- The parts of an admissible configuration. -/
theorem wf_templates (c : Config) (h : c.wf = true) :
    Config.frameWf c.reqRcal = true ∧ Config.scalWf c.scalBody c.scalPos = true ∧ Config.frameWf c.reqRmeas = true := by
  simp [Config.wf] at h; exact ⟨h.1.1.1, h.1.1.2, h.1.2⟩

theorem wf_minlens (c : Config) (h : c.wf = true) :
    5 ≤ c.minlenRcal ∧ c.minlenRcal ≤ 56 ∧ 5 ≤ c.minlenScal ∧ c.minlenScal ≤ 56 ∧ 17 ≤ c.minlenRmeas ∧
      c.minlenRmeas ≤ 56 := by
  simp [Config.wf, Config.minlenWf, Config.rxThresh] at h; omega

/-- The seven device opcodes by name. -/
theorem isDeviceOp_cases (op : Opcode) (h : isDeviceOp op = true) :
    op = 0x4#4 ∨ op = 0x5#4 ∨ op = 0x6#4 ∨ op = 0x7#4 ∨ op = 0x8#4 ∨ op = 0x9#4 ∨ op = 0xA#4 := by
  revert op; decide

/-- The length of a well-formed frame. -/
theorem frameWf_length (l : List Byte) (h : Config.frameWf l = true) : 4 ≤ l.length ∧ l.length ≤ 255 := by
  simp [Config.frameWf] at h; exact h.1.1

/-- The frame of SETUP_CALIB_COEFF from an admissible template is well formed for every v. -/
theorem reqScal_frameWf (cfg : Config) (v : Byte) (h : Config.scalWf cfg.scalBody cfg.scalPos = true) :
    Config.frameWf (reqScal cfg v) = true := by
  simp [Config.scalWf, Config.headAndLen, Config.headReq] at h
  obtain ⟨⟨⟨⟨h1, h2⟩, h3, h4⟩, h5⟩, h6⟩ := h
  simp only [Config.frameWf, Config.headAndLen, Config.headReq, reqScal, withChecksum, Bool.and_eq_true, beq_iff_eq,
    decide_eq_true_eq, List.length_append, List.length_set, List.length_cons, List.length_nil]
  have a0 : cfg.scalPos ≠ 0 := by omega
  have a1 : cfg.scalPos ≠ 1 := by omega
  refine ⟨⟨⟨by omega, by omega⟩, ?_, ?_⟩, by simp⟩
  · rw [List.getElem?_append_left (by simp; omega), List.getElem?_set, if_neg a0]; exact h3
  · rw [List.getElem?_append_left (by simp; omega), List.getElem?_set, if_neg a1]; simpa using h4

/-- Only SETUP_CALIB_COEFF's entry depends on the argument. -/
theorem rom_arg (cfg : Config) (op : Opcode) (v w : Byte) (h : op ≠ 0x7#4) : rom cfg op v = rom cfg op w := by
  unfold rom; split <;> first | rfl | exact absurd rfl h

end Sys2Proof.Machine
end

