-- ==== Sys2Proof/Laws/Decode.lean ====
section
/-! SUPPORT. The decoder's opcode map and the encoder's undo each other, field by field. -/

namespace Sys2Proof

@[simp] theorem wordOp_append (op : Opcode) (arg : Byte) : wordOp (op ++ arg) = op := by
  apply BitVec.eq_of_getLsbD_eq
  intro i hi
  have h := BitVec.getLsbD_append (x := op) (y := arg) (i := 8 + i)
  simp only [wordOp, BitVec.getLsbD_extractLsb', hi, decide_true, Bool.true_and]
  exact h.trans (by simp)

@[simp] theorem wordArg_append (op : Opcode) (arg : Byte) : wordArg (op ++ arg) = arg := by
  apply BitVec.eq_of_getLsbD_eq
  intro i hi
  have h := BitVec.getLsbD_append (x := op) (y := arg) (i := 0 + i)
  simp only [wordArg, BitVec.getLsbD_extractLsb', hi, decide_true, Bool.true_and]
  exact h.trans (by simp [hi])

theorem word_append_fields (w : CommandWord) : (wordOp w ++ wordArg w : CommandWord) = w := by
  apply BitVec.eq_of_getLsbD_eq
  intro i hi
  have h := BitVec.getLsbD_append (x := wordOp w) (y := wordArg w) (i := i)
  refine h.trans ?_
  simp only [wordOp, wordArg, BitVec.getLsbD_extractLsb']
  by_cases h8 : i < 8
  · simp [h8]
  · have h4 : i - 8 < 4 := by omega
    have : 8 + (i - 8) = i := by omega
    simp [h8, h4, this]

@[simp] theorem operand_decodeOp (op : Opcode) (arg : Byte) : (decodeOp op arg).operand = arg := by
  unfold decodeOp; split <;> rfl

@[simp] theorem opcode_decodeOp (op : Opcode) (arg : Byte) : (decodeOp op arg).opcode = op := by
  have h : ∀ op : Opcode, (decodeOp op 0#8).opcode = op := by decide
  have hi : (decodeOp op arg).opcode = (decodeOp op 0#8).opcode := by
    unfold decodeOp; split <;> rfl
  rw [hi, h]

end Sys2Proof
end

