-- ==== Sys2Proof/Laws/Memory.lean ====
section
/-! SUPPORT. The laws of RXBUF: read after write, the canonical form, and reading a range. -/

namespace Sys2Proof.Machine.Memory

@[simp] theorem read_write_same (m : Memory) (a : Nat) (v : Byte) : read (write m a v) a = some v := by
  induction m with
  | nil => simp [write, read]
  | cons c m ih =>
    simp only [write]
    split
    · simp [read]
    · split
      · simp [read]
      · next h => simp [read, h, ih]

theorem read_write_other (m : Memory) (a b : Nat) (v : Byte) (h : b ≠ a) : read (write m a v) b = read m b := by
  induction m with
  | nil => simp [write, read, h]
  | cons c m ih =>
    simp only [write]
    split
    · simp [read, h]
    · split
      · next heq => subst heq; simp [read, h]
      · simp [read, ih]

theorem write_risingFrom (m : Memory) (lo a : Nat) (v : Byte) (hm : risingFrom lo m = true) (ha : lo ≤ a) :
    risingFrom lo (write m a v) = true := by
  induction m generalizing lo with
  | nil => simp [write, risingFrom, ha]
  | cons c m ih =>
    simp only [risingFrom, Bool.and_eq_true, decide_eq_true_eq] at hm
    simp only [write]
    split
    · next h => simp [risingFrom, ha, hm.2]; omega
    · split
      · next heq => subst heq; simp [risingFrom, ha, hm.2]
      · simp [risingFrom, hm.1]; exact ih _ hm.2 (by omega)

theorem write_all_lt (m : Memory) (a : Nat) (v : Byte) (n : Nat) (hm : m.all (fun c => c.1 < n) = true) (ha : a < n) :
    (write m a v).all (fun c => c.1 < n) = true := by
  induction m with
  | nil => simpa [write] using ha
  | cons c m ih =>
    simp only [List.all_cons, Bool.and_eq_true, decide_eq_true_eq] at hm
    simp only [write]
    split
    · simp only [List.all_cons, Bool.and_eq_true, decide_eq_true_eq]; exact ⟨ha, hm⟩
    · split
      · simp only [List.all_cons, Bool.and_eq_true, decide_eq_true_eq]; exact ⟨ha, hm.2⟩
      · simp only [List.all_cons, Bool.and_eq_true, decide_eq_true_eq]; exact ⟨hm.1, ih hm.2⟩

/-- Every store at an index of RXBUF keeps the canonical form. -/
theorem write_wf (m : Memory) (a : Nat) (v : Byte) (hm : wf m = true) (ha : a < Config.bufCap) :
    wf (write m a v) = true := by
  simp only [wf, Bool.and_eq_true] at hm ⊢
  exact ⟨write_risingFrom m 0 a v hm.1 (Nat.zero_le _), write_all_lt m a v _ hm.2 ha⟩

@[simp] theorem wf_nil : wf [] = true := rfl

theorem readRange_length {m : Memory} {a n : Nat} {buf : List Byte} (h : readRange m a n = some buf) :
    buf.length = n := by
  induction n generalizing a buf with
  | zero => simp [readRange] at h; simp [← h]
  | succ n ih =>
    simp only [readRange] at h
    split at h
    · next hb => simp at h; subst h; simp [ih hb]
    · cases h

theorem readRange_getElem? {m : Memory} {a n : Nat} {buf : List Byte} (h : readRange m a n = some buf) (i : Nat)
    (hi : i < n) : buf[i]? = read m (a + i) := by
  induction n generalizing a buf i with
  | zero => omega
  | succ n ih =>
    simp only [readRange] at h
    split at h
    · next hr hb =>
      simp at h; subst h
      cases i with
      | zero => simp [hr]
      | succ i => simpa [Nat.add_assoc, Nat.add_comm 1] using ih hb i (by omega)
    · cases h

theorem readRange_isSome {m : Memory} {a n : Nat} (h : ∀ i < n, (read m (a + i)).isSome) :
    ∃ buf, readRange m a n = some buf := by
  induction n generalizing a with
  | zero => exact ⟨[], rfl⟩
  | succ n ih =>
    obtain ⟨b, hb⟩ := Option.isSome_iff_exists.mp (h 0 (by omega))
    obtain ⟨bs, hbs⟩ := ih (a := a + 1) fun i hi => by
      simpa [Nat.add_assoc, Nat.add_comm 1] using h (i + 1) (by omega)
    exact ⟨b :: bs, by simp at hb; simp [readRange, hb, hbs]⟩

/-- Two memories that agree on a range read the same there. -/
theorem readRange_congr {m m' : Memory} {a n : Nat} (h : ∀ i < n, read m (a + i) = read m' (a + i)) :
    readRange m a n = readRange m' a n := by
  induction n generalizing a with
  | zero => rfl
  | succ n ih =>
    have h0 := h 0 (by omega)
    have hn := ih (a := a + 1) fun i hi => by
      simpa [Nat.add_assoc, Nat.add_comm 1] using h (i + 1) (by omega)
    simp only [Nat.add_zero] at h0
    simp only [readRange, h0, hn]

/-- The range one longer is the range with the next byte behind it. -/
theorem readRange_succ {m : Memory} {a n : Nat} {buf : List Byte} {b : Byte} (h : readRange m a n = some buf)
    (hb : read m (a + n) = some b) : readRange m a (n + 1) = some (buf ++ [b]) := by
  induction n generalizing a buf with
  | zero => simp [readRange] at h hb ⊢; simp [← h, hb]
  | succ n ih =>
    simp only [readRange] at h
    split at h
    · next x xs hx hxs =>
      simp at h; subst h
      have := ih hxs (by simpa [Nat.add_assoc, Nat.add_comm 1] using hb)
      rw [readRange]; simp [hx, this]
    · cases h

end Sys2Proof.Machine.Memory
end

