-- ==== Sys2Proof/Laws/State.lean ====
section
/-! SUPPORT. One lemma per field per named update of State, true by rfl, so that no proof unfolds a record update. -/

namespace Sys2Proof.Machine.State

variable (s : State)

@[simp] theorem latch_opened (op : Opcode) (arg : Byte) : (s.latch op arg).opened = s.opened := rfl
@[simp] theorem latch_seq (op : Opcode) (arg : Byte) : (s.latch op arg).seq = s.seq := rfl
@[simp] theorem latch_op (op : Opcode) (arg : Byte) : (s.latch op arg).op = op := rfl
@[simp] theorem latch_arg (op : Opcode) (arg : Byte) : (s.latch op arg).arg = arg := rfl
@[simp] theorem latch_txIdx (op : Opcode) (arg : Byte) : (s.latch op arg).txIdx = s.txIdx := rfl
@[simp] theorem latch_rxbuf (op : Opcode) (arg : Byte) : (s.latch op arg).rxbuf = s.rxbuf := rfl
@[simp] theorem latch_rxCnt (op : Opcode) (arg : Byte) : (s.latch op arg).rxCnt = s.rxCnt := rfl
@[simp] theorem latch_idleTmr (op : Opcode) (arg : Byte) : (s.latch op arg).idleTmr = s.idleTmr := rfl
@[simp] theorem latch_done (op : Opcode) (arg : Byte) : (s.latch op arg).done = false := rfl
@[simp] theorem latch_status (op : Opcode) (arg : Byte) : (s.latch op arg).status = s.status := rfl
@[simp] theorem latch_resBool (op : Opcode) (arg : Byte) : (s.latch op arg).resBool = s.resBool := rfl
@[simp] theorem latch_resByte (op : Opcode) (arg : Byte) : (s.latch op arg).resByte = s.resByte := rfl
@[simp] theorem latch_resStr (op : Opcode) (arg : Byte) : (s.latch op arg).resStr = s.resStr := rfl
@[simp] theorem latch_resLen (op : Opcode) (arg : Byte) : (s.latch op arg).resLen = s.resLen := rfl
@[simp] theorem latch_resCnt (op : Opcode) (arg : Byte) : (s.latch op arg).resCnt = s.resCnt := rfl
@[simp] theorem latch_resAlarm (op : Opcode) (arg : Byte) : (s.latch op arg).resAlarm = s.resAlarm := rfl
@[simp] theorem latch_bit (op : Opcode) (arg : Byte) : (s.latch op arg).bit = s.bit := rfl
@[simp] theorem latch_cfg (op : Opcode) (arg : Byte) : (s.latch op arg).cfg = s.cfg := rfl
@[simp] theorem latch_host (op : Opcode) (arg : Byte) : (s.latch op arg).host = s.host := rfl
@[simp] theorem latch_openOk (op : Opcode) (arg : Byte) : (s.latch op arg).openOk = s.openOk := rfl
@[simp] theorem latch_line (op : Opcode) (arg : Byte) : (s.latch op arg).line = s.line := rfl
@[simp] theorem latch_rst (op : Opcode) (arg : Byte) : (s.latch op arg).rst = s.rst := rfl
@[simp] theorem latch_txLine (op : Opcode) (arg : Byte) : (s.latch op arg).txLine = s.txLine := rfl
@[simp] theorem latch_free (op : Opcode) (arg : Byte) : (s.latch op arg).free = s.free := rfl

@[simp] theorem raise_opened (e : ErrorKind) : (s.raise e).opened = s.opened := rfl
@[simp] theorem raise_seq (e : ErrorKind) : (s.raise e).seq = .idle := rfl
@[simp] theorem raise_op (e : ErrorKind) : (s.raise e).op = s.op := rfl
@[simp] theorem raise_arg (e : ErrorKind) : (s.raise e).arg = s.arg := rfl
@[simp] theorem raise_txIdx (e : ErrorKind) : (s.raise e).txIdx = s.txIdx := rfl
@[simp] theorem raise_rxbuf (e : ErrorKind) : (s.raise e).rxbuf = s.rxbuf := rfl
@[simp] theorem raise_rxCnt (e : ErrorKind) : (s.raise e).rxCnt = s.rxCnt := rfl
@[simp] theorem raise_idleTmr (e : ErrorKind) : (s.raise e).idleTmr = s.idleTmr := rfl
@[simp] theorem raise_done (e : ErrorKind) : (s.raise e).done = true := rfl
@[simp] theorem raise_status (e : ErrorKind) : (s.raise e).status = .error e := rfl
@[simp] theorem raise_resBool (e : ErrorKind) : (s.raise e).resBool = s.resBool := rfl
@[simp] theorem raise_resByte (e : ErrorKind) : (s.raise e).resByte = s.resByte := rfl
@[simp] theorem raise_resStr (e : ErrorKind) : (s.raise e).resStr = s.resStr := rfl
@[simp] theorem raise_resLen (e : ErrorKind) : (s.raise e).resLen = s.resLen := rfl
@[simp] theorem raise_resCnt (e : ErrorKind) : (s.raise e).resCnt = s.resCnt := rfl
@[simp] theorem raise_resAlarm (e : ErrorKind) : (s.raise e).resAlarm = s.resAlarm := rfl
@[simp] theorem raise_bit (e : ErrorKind) : (s.raise e).bit = s.bit := rfl
@[simp] theorem raise_cfg (e : ErrorKind) : (s.raise e).cfg = s.cfg := rfl
@[simp] theorem raise_host (e : ErrorKind) : (s.raise e).host = s.host := rfl
@[simp] theorem raise_openOk (e : ErrorKind) : (s.raise e).openOk = s.openOk := rfl
@[simp] theorem raise_line (e : ErrorKind) : (s.raise e).line = s.line := rfl
@[simp] theorem raise_rst (e : ErrorKind) : (s.raise e).rst = s.rst := rfl
@[simp] theorem raise_txLine (e : ErrorKind) : (s.raise e).txLine = s.txLine := rfl
@[simp] theorem raise_free (e : ErrorKind) : (s.raise e).free = s.free := rfl

@[simp] theorem complete_opened : (s.complete).opened = s.opened := rfl
@[simp] theorem complete_seq : (s.complete).seq = .idle := rfl
@[simp] theorem complete_op : (s.complete).op = s.op := rfl
@[simp] theorem complete_arg : (s.complete).arg = s.arg := rfl
@[simp] theorem complete_txIdx : (s.complete).txIdx = s.txIdx := rfl
@[simp] theorem complete_rxbuf : (s.complete).rxbuf = s.rxbuf := rfl
@[simp] theorem complete_rxCnt : (s.complete).rxCnt = s.rxCnt := rfl
@[simp] theorem complete_idleTmr : (s.complete).idleTmr = s.idleTmr := rfl
@[simp] theorem complete_done : (s.complete).done = true := rfl
@[simp] theorem complete_status : (s.complete).status = .ok := rfl
@[simp] theorem complete_resBool : (s.complete).resBool = s.resBool := rfl
@[simp] theorem complete_resByte : (s.complete).resByte = s.resByte := rfl
@[simp] theorem complete_resStr : (s.complete).resStr = s.resStr := rfl
@[simp] theorem complete_resLen : (s.complete).resLen = s.resLen := rfl
@[simp] theorem complete_resCnt : (s.complete).resCnt = s.resCnt := rfl
@[simp] theorem complete_resAlarm : (s.complete).resAlarm = s.resAlarm := rfl
@[simp] theorem complete_bit : (s.complete).bit = s.bit := rfl
@[simp] theorem complete_cfg : (s.complete).cfg = s.cfg := rfl
@[simp] theorem complete_host : (s.complete).host = s.host := rfl
@[simp] theorem complete_openOk : (s.complete).openOk = s.openOk := rfl
@[simp] theorem complete_line : (s.complete).line = s.line := rfl
@[simp] theorem complete_rst : (s.complete).rst = s.rst := rfl
@[simp] theorem complete_txLine : (s.complete).txLine = s.txLine := rfl
@[simp] theorem complete_free : (s.complete).free = s.free := rfl

@[simp] theorem setOpened_opened (b : Bool) : (s.setOpened b).opened = b := rfl
@[simp] theorem setOpened_seq (b : Bool) : (s.setOpened b).seq = s.seq := rfl
@[simp] theorem setOpened_op (b : Bool) : (s.setOpened b).op = s.op := rfl
@[simp] theorem setOpened_arg (b : Bool) : (s.setOpened b).arg = s.arg := rfl
@[simp] theorem setOpened_txIdx (b : Bool) : (s.setOpened b).txIdx = s.txIdx := rfl
@[simp] theorem setOpened_rxbuf (b : Bool) : (s.setOpened b).rxbuf = s.rxbuf := rfl
@[simp] theorem setOpened_rxCnt (b : Bool) : (s.setOpened b).rxCnt = s.rxCnt := rfl
@[simp] theorem setOpened_idleTmr (b : Bool) : (s.setOpened b).idleTmr = s.idleTmr := rfl
@[simp] theorem setOpened_done (b : Bool) : (s.setOpened b).done = s.done := rfl
@[simp] theorem setOpened_status (b : Bool) : (s.setOpened b).status = s.status := rfl
@[simp] theorem setOpened_resBool (b : Bool) : (s.setOpened b).resBool = s.resBool := rfl
@[simp] theorem setOpened_resByte (b : Bool) : (s.setOpened b).resByte = s.resByte := rfl
@[simp] theorem setOpened_resStr (b : Bool) : (s.setOpened b).resStr = s.resStr := rfl
@[simp] theorem setOpened_resLen (b : Bool) : (s.setOpened b).resLen = s.resLen := rfl
@[simp] theorem setOpened_resCnt (b : Bool) : (s.setOpened b).resCnt = s.resCnt := rfl
@[simp] theorem setOpened_resAlarm (b : Bool) : (s.setOpened b).resAlarm = s.resAlarm := rfl
@[simp] theorem setOpened_bit (b : Bool) : (s.setOpened b).bit = s.bit := rfl
@[simp] theorem setOpened_cfg (b : Bool) : (s.setOpened b).cfg = s.cfg := rfl
@[simp] theorem setOpened_host (b : Bool) : (s.setOpened b).host = s.host := rfl
@[simp] theorem setOpened_openOk (b : Bool) : (s.setOpened b).openOk = s.openOk := rfl
@[simp] theorem setOpened_line (b : Bool) : (s.setOpened b).line = s.line := rfl
@[simp] theorem setOpened_rst (b : Bool) : (s.setOpened b).rst = s.rst := rfl
@[simp] theorem setOpened_txLine (b : Bool) : (s.setOpened b).txLine = s.txLine := rfl
@[simp] theorem setOpened_free (b : Bool) : (s.setOpened b).free = s.free := rfl

@[simp] theorem startExchange_opened : (s.startExchange).opened = s.opened := rfl
@[simp] theorem startExchange_seq : (s.startExchange).seq = .tx := rfl
@[simp] theorem startExchange_op : (s.startExchange).op = s.op := rfl
@[simp] theorem startExchange_arg : (s.startExchange).arg = s.arg := rfl
@[simp] theorem startExchange_txIdx : (s.startExchange).txIdx = 0#8 := rfl
@[simp] theorem startExchange_rxbuf : (s.startExchange).rxbuf = s.rxbuf := rfl
@[simp] theorem startExchange_rxCnt : (s.startExchange).rxCnt = s.rxCnt := rfl
@[simp] theorem startExchange_idleTmr : (s.startExchange).idleTmr = s.idleTmr := rfl
@[simp] theorem startExchange_done : (s.startExchange).done = s.done := rfl
@[simp] theorem startExchange_status : (s.startExchange).status = s.status := rfl
@[simp] theorem startExchange_resBool : (s.startExchange).resBool = s.resBool := rfl
@[simp] theorem startExchange_resByte : (s.startExchange).resByte = s.resByte := rfl
@[simp] theorem startExchange_resStr : (s.startExchange).resStr = s.resStr := rfl
@[simp] theorem startExchange_resLen : (s.startExchange).resLen = s.resLen := rfl
@[simp] theorem startExchange_resCnt : (s.startExchange).resCnt = s.resCnt := rfl
@[simp] theorem startExchange_resAlarm : (s.startExchange).resAlarm = s.resAlarm := rfl
@[simp] theorem startExchange_bit : (s.startExchange).bit = s.bit := rfl
@[simp] theorem startExchange_cfg : (s.startExchange).cfg = s.cfg := rfl
@[simp] theorem startExchange_host : (s.startExchange).host = s.host := rfl
@[simp] theorem startExchange_openOk : (s.startExchange).openOk = s.openOk := rfl
@[simp] theorem startExchange_line : (s.startExchange).line = s.line := rfl
@[simp] theorem startExchange_rst : (s.startExchange).rst = s.rst := rfl
@[simp] theorem startExchange_txLine : (s.startExchange).txLine = s.txLine := rfl
@[simp] theorem startExchange_free : (s.startExchange).free = s.free := rfl

@[simp] theorem sentByte_opened (b : Byte) : (s.sentByte b).opened = s.opened := rfl
@[simp] theorem sentByte_seq (b : Byte) : (s.sentByte b).seq = s.seq := rfl
@[simp] theorem sentByte_op (b : Byte) : (s.sentByte b).op = s.op := rfl
@[simp] theorem sentByte_arg (b : Byte) : (s.sentByte b).arg = s.arg := rfl
@[simp] theorem sentByte_txIdx (b : Byte) : (s.sentByte b).txIdx = s.txIdx + 1#8 := rfl
@[simp] theorem sentByte_rxbuf (b : Byte) : (s.sentByte b).rxbuf = s.rxbuf := rfl
@[simp] theorem sentByte_rxCnt (b : Byte) : (s.sentByte b).rxCnt = s.rxCnt := rfl
@[simp] theorem sentByte_idleTmr (b : Byte) : (s.sentByte b).idleTmr = s.idleTmr := rfl
@[simp] theorem sentByte_done (b : Byte) : (s.sentByte b).done = s.done := rfl
@[simp] theorem sentByte_status (b : Byte) : (s.sentByte b).status = s.status := rfl
@[simp] theorem sentByte_resBool (b : Byte) : (s.sentByte b).resBool = s.resBool := rfl
@[simp] theorem sentByte_resByte (b : Byte) : (s.sentByte b).resByte = s.resByte := rfl
@[simp] theorem sentByte_resStr (b : Byte) : (s.sentByte b).resStr = s.resStr := rfl
@[simp] theorem sentByte_resLen (b : Byte) : (s.sentByte b).resLen = s.resLen := rfl
@[simp] theorem sentByte_resCnt (b : Byte) : (s.sentByte b).resCnt = s.resCnt := rfl
@[simp] theorem sentByte_resAlarm (b : Byte) : (s.sentByte b).resAlarm = s.resAlarm := rfl
@[simp] theorem sentByte_bit (b : Byte) : (s.sentByte b).bit = s.bit := rfl
@[simp] theorem sentByte_cfg (b : Byte) : (s.sentByte b).cfg = s.cfg := rfl
@[simp] theorem sentByte_host (b : Byte) : (s.sentByte b).host = s.host := rfl
@[simp] theorem sentByte_openOk (b : Byte) : (s.sentByte b).openOk = s.openOk := rfl
@[simp] theorem sentByte_line (b : Byte) : (s.sentByte b).line = s.line := rfl
@[simp] theorem sentByte_rst (b : Byte) : (s.sentByte b).rst = s.rst := rfl
@[simp] theorem sentByte_txLine (b : Byte) : (s.sentByte b).txLine = s.txLine ++ [b] := rfl
@[simp] theorem sentByte_free (b : Byte) : (s.sentByte b).free = s.free := rfl

@[simp] theorem openWindow_opened : (s.openWindow).opened = s.opened := rfl
@[simp] theorem openWindow_seq : (s.openWindow).seq = .rx := rfl
@[simp] theorem openWindow_op : (s.openWindow).op = s.op := rfl
@[simp] theorem openWindow_arg : (s.openWindow).arg = s.arg := rfl
@[simp] theorem openWindow_txIdx : (s.openWindow).txIdx = s.txIdx := rfl
@[simp] theorem openWindow_rxbuf : (s.openWindow).rxbuf = s.rxbuf := rfl
@[simp] theorem openWindow_rxCnt : (s.openWindow).rxCnt = 0#9 := rfl
@[simp] theorem openWindow_idleTmr : (s.openWindow).idleTmr = 0#10 := rfl
@[simp] theorem openWindow_done : (s.openWindow).done = s.done := rfl
@[simp] theorem openWindow_status : (s.openWindow).status = s.status := rfl
@[simp] theorem openWindow_resBool : (s.openWindow).resBool = s.resBool := rfl
@[simp] theorem openWindow_resByte : (s.openWindow).resByte = s.resByte := rfl
@[simp] theorem openWindow_resStr : (s.openWindow).resStr = s.resStr := rfl
@[simp] theorem openWindow_resLen : (s.openWindow).resLen = s.resLen := rfl
@[simp] theorem openWindow_resCnt : (s.openWindow).resCnt = s.resCnt := rfl
@[simp] theorem openWindow_resAlarm : (s.openWindow).resAlarm = s.resAlarm := rfl
@[simp] theorem openWindow_bit : (s.openWindow).bit = BitState.idle := rfl
@[simp] theorem openWindow_cfg : (s.openWindow).cfg = s.cfg := rfl
@[simp] theorem openWindow_host : (s.openWindow).host = s.host := rfl
@[simp] theorem openWindow_openOk : (s.openWindow).openOk = s.openOk := rfl
@[simp] theorem openWindow_line : (s.openWindow).line = s.line := rfl
@[simp] theorem openWindow_rst : (s.openWindow).rst = s.rst := rfl
@[simp] theorem openWindow_txLine : (s.openWindow).txLine = s.txLine := rfl
@[simp] theorem openWindow_free : (s.openWindow).free = s.free := rfl

@[simp] theorem storeByte_opened (b : Byte) : (s.storeByte b).opened = s.opened := rfl
@[simp] theorem storeByte_seq (b : Byte) : (s.storeByte b).seq = s.seq := rfl
@[simp] theorem storeByte_op (b : Byte) : (s.storeByte b).op = s.op := rfl
@[simp] theorem storeByte_arg (b : Byte) : (s.storeByte b).arg = s.arg := rfl
@[simp] theorem storeByte_txIdx (b : Byte) : (s.storeByte b).txIdx = s.txIdx := rfl
@[simp] theorem storeByte_rxbuf (b : Byte) : (s.storeByte b).rxbuf = Memory.write s.rxbuf s.rxCnt.toNat b := rfl
@[simp] theorem storeByte_rxCnt (b : Byte) : (s.storeByte b).rxCnt = s.rxCnt + 1#9 := rfl
@[simp] theorem storeByte_idleTmr (b : Byte) : (s.storeByte b).idleTmr = 0#10 := rfl
@[simp] theorem storeByte_done (b : Byte) : (s.storeByte b).done = s.done := rfl
@[simp] theorem storeByte_status (b : Byte) : (s.storeByte b).status = s.status := rfl
@[simp] theorem storeByte_resBool (b : Byte) : (s.storeByte b).resBool = s.resBool := rfl
@[simp] theorem storeByte_resByte (b : Byte) : (s.storeByte b).resByte = s.resByte := rfl
@[simp] theorem storeByte_resStr (b : Byte) : (s.storeByte b).resStr = s.resStr := rfl
@[simp] theorem storeByte_resLen (b : Byte) : (s.storeByte b).resLen = s.resLen := rfl
@[simp] theorem storeByte_resCnt (b : Byte) : (s.storeByte b).resCnt = s.resCnt := rfl
@[simp] theorem storeByte_resAlarm (b : Byte) : (s.storeByte b).resAlarm = s.resAlarm := rfl
@[simp] theorem storeByte_bit (b : Byte) : (s.storeByte b).bit = s.bit := rfl
@[simp] theorem storeByte_cfg (b : Byte) : (s.storeByte b).cfg = s.cfg := rfl
@[simp] theorem storeByte_host (b : Byte) : (s.storeByte b).host = s.host := rfl
@[simp] theorem storeByte_openOk (b : Byte) : (s.storeByte b).openOk = s.openOk := rfl
@[simp] theorem storeByte_line (b : Byte) : (s.storeByte b).line = s.line := rfl
@[simp] theorem storeByte_rst (b : Byte) : (s.storeByte b).rst = s.rst := rfl
@[simp] theorem storeByte_txLine (b : Byte) : (s.storeByte b).txLine = s.txLine := rfl
@[simp] theorem storeByte_free (b : Byte) : (s.storeByte b).free = s.free := rfl

@[simp] theorem closeWindow_opened : (s.closeWindow).opened = s.opened := rfl
@[simp] theorem closeWindow_seq : (s.closeWindow).seq = .check := rfl
@[simp] theorem closeWindow_op : (s.closeWindow).op = s.op := rfl
@[simp] theorem closeWindow_arg : (s.closeWindow).arg = s.arg := rfl
@[simp] theorem closeWindow_txIdx : (s.closeWindow).txIdx = s.txIdx := rfl
@[simp] theorem closeWindow_rxbuf : (s.closeWindow).rxbuf = s.rxbuf := rfl
@[simp] theorem closeWindow_rxCnt : (s.closeWindow).rxCnt = s.rxCnt := rfl
@[simp] theorem closeWindow_idleTmr : (s.closeWindow).idleTmr = s.idleTmr := rfl
@[simp] theorem closeWindow_done : (s.closeWindow).done = s.done := rfl
@[simp] theorem closeWindow_status : (s.closeWindow).status = s.status := rfl
@[simp] theorem closeWindow_resBool : (s.closeWindow).resBool = s.resBool := rfl
@[simp] theorem closeWindow_resByte : (s.closeWindow).resByte = s.resByte := rfl
@[simp] theorem closeWindow_resStr : (s.closeWindow).resStr = s.resStr := rfl
@[simp] theorem closeWindow_resLen : (s.closeWindow).resLen = s.resLen := rfl
@[simp] theorem closeWindow_resCnt : (s.closeWindow).resCnt = s.resCnt := rfl
@[simp] theorem closeWindow_resAlarm : (s.closeWindow).resAlarm = s.resAlarm := rfl
@[simp] theorem closeWindow_bit : (s.closeWindow).bit = BitState.idle := rfl
@[simp] theorem closeWindow_cfg : (s.closeWindow).cfg = s.cfg := rfl
@[simp] theorem closeWindow_host : (s.closeWindow).host = s.host := rfl
@[simp] theorem closeWindow_openOk : (s.closeWindow).openOk = s.openOk := rfl
@[simp] theorem closeWindow_line : (s.closeWindow).line = [] := rfl
@[simp] theorem closeWindow_rst : (s.closeWindow).rst = s.rst := rfl
@[simp] theorem closeWindow_txLine : (s.closeWindow).txLine = s.txLine := rfl
@[simp] theorem closeWindow_free : (s.closeWindow).free = s.free := rfl

@[simp] theorem expire_opened : (s.expire).opened = s.opened := rfl
@[simp] theorem expire_seq : (s.expire).seq = .check := rfl
@[simp] theorem expire_op : (s.expire).op = s.op := rfl
@[simp] theorem expire_arg : (s.expire).arg = s.arg := rfl
@[simp] theorem expire_txIdx : (s.expire).txIdx = s.txIdx := rfl
@[simp] theorem expire_rxbuf : (s.expire).rxbuf = s.rxbuf := rfl
@[simp] theorem expire_rxCnt : (s.expire).rxCnt = s.rxCnt := rfl
@[simp] theorem expire_idleTmr : (s.expire).idleTmr = 960#10 := rfl
@[simp] theorem expire_done : (s.expire).done = s.done := rfl
@[simp] theorem expire_status : (s.expire).status = s.status := rfl
@[simp] theorem expire_resBool : (s.expire).resBool = s.resBool := rfl
@[simp] theorem expire_resByte : (s.expire).resByte = s.resByte := rfl
@[simp] theorem expire_resStr : (s.expire).resStr = s.resStr := rfl
@[simp] theorem expire_resLen : (s.expire).resLen = s.resLen := rfl
@[simp] theorem expire_resCnt : (s.expire).resCnt = s.resCnt := rfl
@[simp] theorem expire_resAlarm : (s.expire).resAlarm = s.resAlarm := rfl
@[simp] theorem expire_bit : (s.expire).bit = BitState.idle := rfl
@[simp] theorem expire_cfg : (s.expire).cfg = s.cfg := rfl
@[simp] theorem expire_host : (s.expire).host = s.host := rfl
@[simp] theorem expire_openOk : (s.expire).openOk = s.openOk := rfl
@[simp] theorem expire_line : (s.expire).line = [] := rfl
@[simp] theorem expire_rst : (s.expire).rst = s.rst := rfl
@[simp] theorem expire_txLine : (s.expire).txLine = s.txLine := rfl
@[simp] theorem expire_free : (s.expire).free = s.free := rfl

@[simp] theorem resetRegisters_opened : (s.resetRegisters).opened = false := rfl
@[simp] theorem resetRegisters_seq : (s.resetRegisters).seq = .idle := rfl
@[simp] theorem resetRegisters_op : (s.resetRegisters).op = 0#4 := rfl
@[simp] theorem resetRegisters_arg : (s.resetRegisters).arg = 0#8 := rfl
@[simp] theorem resetRegisters_txIdx : (s.resetRegisters).txIdx = 0#8 := rfl
@[simp] theorem resetRegisters_rxbuf : (s.resetRegisters).rxbuf = [] := rfl
@[simp] theorem resetRegisters_rxCnt : (s.resetRegisters).rxCnt = 0#9 := rfl
@[simp] theorem resetRegisters_idleTmr : (s.resetRegisters).idleTmr = 0#10 := rfl
@[simp] theorem resetRegisters_done : (s.resetRegisters).done = false := rfl
@[simp] theorem resetRegisters_status : (s.resetRegisters).status = .ok := rfl
@[simp] theorem resetRegisters_resBool : (s.resetRegisters).resBool = false := rfl
@[simp] theorem resetRegisters_resByte : (s.resetRegisters).resByte = 0#8 := rfl
@[simp] theorem resetRegisters_resStr : (s.resetRegisters).resStr = Vector.replicate 25 0#8 := rfl
@[simp] theorem resetRegisters_resLen : (s.resetRegisters).resLen = 0#5 := rfl
@[simp] theorem resetRegisters_resCnt : (s.resetRegisters).resCnt = Vector.replicate 6 0#16 := rfl
@[simp] theorem resetRegisters_resAlarm : (s.resetRegisters).resAlarm = 0#8 := rfl
@[simp] theorem resetRegisters_bit : (s.resetRegisters).bit = BitState.idle := rfl
@[simp] theorem resetRegisters_cfg : (s.resetRegisters).cfg = s.cfg := rfl
@[simp] theorem resetRegisters_host : (s.resetRegisters).host = s.host := rfl
@[simp] theorem resetRegisters_openOk : (s.resetRegisters).openOk = s.openOk := rfl
@[simp] theorem resetRegisters_line : (s.resetRegisters).line = [] := rfl
@[simp] theorem resetRegisters_rst : (s.resetRegisters).rst = s.rst := rfl
@[simp] theorem resetRegisters_txLine : (s.resetRegisters).txLine = s.txLine := rfl
@[simp] theorem resetRegisters_free : (s.resetRegisters).free = s.free := rfl

@[simp] theorem tick_opened : (s.tick).opened = s.opened := rfl
@[simp] theorem tick_seq : (s.tick).seq = s.seq := rfl
@[simp] theorem tick_op : (s.tick).op = s.op := rfl
@[simp] theorem tick_arg : (s.tick).arg = s.arg := rfl
@[simp] theorem tick_txIdx : (s.tick).txIdx = s.txIdx := rfl
@[simp] theorem tick_rxbuf : (s.tick).rxbuf = s.rxbuf := rfl
@[simp] theorem tick_rxCnt : (s.tick).rxCnt = s.rxCnt := rfl
@[simp] theorem tick_idleTmr : (s.tick).idleTmr = s.idleTmr := rfl
@[simp] theorem tick_done : (s.tick).done = s.done := rfl
@[simp] theorem tick_status : (s.tick).status = s.status := rfl
@[simp] theorem tick_resBool : (s.tick).resBool = s.resBool := rfl
@[simp] theorem tick_resByte : (s.tick).resByte = s.resByte := rfl
@[simp] theorem tick_resStr : (s.tick).resStr = s.resStr := rfl
@[simp] theorem tick_resLen : (s.tick).resLen = s.resLen := rfl
@[simp] theorem tick_resCnt : (s.tick).resCnt = s.resCnt := rfl
@[simp] theorem tick_resAlarm : (s.tick).resAlarm = s.resAlarm := rfl
@[simp] theorem tick_bit : (s.tick).bit = s.bit := rfl
@[simp] theorem tick_cfg : (s.tick).cfg = s.cfg := rfl
@[simp] theorem tick_host : (s.tick).host = s.host := rfl
@[simp] theorem tick_openOk : (s.tick).openOk = s.openOk := rfl
@[simp] theorem tick_line : (s.tick).line = s.line := rfl
@[simp] theorem tick_rst : (s.tick).rst = s.rst.tail := rfl
@[simp] theorem tick_txLine : (s.tick).txLine = s.txLine := rfl
@[simp] theorem tick_free : (s.tick).free = s.free := rfl

@[simp] theorem present_opened (c : Command) (rest : List Command) : (s.present c rest).opened = s.opened := rfl
@[simp] theorem present_seq (c : Command) (rest : List Command) : (s.present c rest).seq = s.seq := rfl
@[simp] theorem present_op (c : Command) (rest : List Command) : (s.present c rest).op = s.op := rfl
@[simp] theorem present_arg (c : Command) (rest : List Command) : (s.present c rest).arg = s.arg := rfl
@[simp] theorem present_txIdx (c : Command) (rest : List Command) : (s.present c rest).txIdx = s.txIdx := rfl
@[simp] theorem present_rxbuf (c : Command) (rest : List Command) : (s.present c rest).rxbuf = s.rxbuf := rfl
@[simp] theorem present_rxCnt (c : Command) (rest : List Command) : (s.present c rest).rxCnt = s.rxCnt := rfl
@[simp] theorem present_idleTmr (c : Command) (rest : List Command) : (s.present c rest).idleTmr = s.idleTmr := rfl
@[simp] theorem present_done (c : Command) (rest : List Command) : (s.present c rest).done = s.done := rfl
@[simp] theorem present_status (c : Command) (rest : List Command) : (s.present c rest).status = s.status := rfl
@[simp] theorem present_resBool (c : Command) (rest : List Command) : (s.present c rest).resBool = s.resBool := rfl
@[simp] theorem present_resByte (c : Command) (rest : List Command) : (s.present c rest).resByte = s.resByte := rfl
@[simp] theorem present_resStr (c : Command) (rest : List Command) : (s.present c rest).resStr = s.resStr := rfl
@[simp] theorem present_resLen (c : Command) (rest : List Command) : (s.present c rest).resLen = s.resLen := rfl
@[simp] theorem present_resCnt (c : Command) (rest : List Command) : (s.present c rest).resCnt = s.resCnt := rfl
@[simp] theorem present_resAlarm (c : Command) (rest : List Command) : (s.present c rest).resAlarm = s.resAlarm := rfl
@[simp] theorem present_bit (c : Command) (rest : List Command) : (s.present c rest).bit = s.bit := rfl
@[simp] theorem present_cfg (c : Command) (rest : List Command) : (s.present c rest).cfg = s.cfg := rfl
@[simp] theorem present_host (c : Command) (rest : List Command) : (s.present c rest).host = rest := rfl
@[simp] theorem present_openOk (c : Command) (rest : List Command) : (s.present c rest).openOk = c.openOk := rfl
@[simp] theorem present_line (c : Command) (rest : List Command) : (s.present c rest).line = c.stream := rfl
@[simp] theorem present_rst (c : Command) (rest : List Command) : (s.present c rest).rst = s.rst := rfl
@[simp] theorem present_txLine (c : Command) (rest : List Command) : (s.present c rest).txLine = s.txLine := rfl
@[simp] theorem present_free (c : Command) (rest : List Command) : (s.present c rest).free = s.free := rfl

@[simp] theorem setResult_opened (r : Result) : (s.setResult r).opened = s.opened := by cases r <;> rfl
@[simp] theorem setResult_seq (r : Result) : (s.setResult r).seq = s.seq := by cases r <;> rfl
@[simp] theorem setResult_op (r : Result) : (s.setResult r).op = s.op := by cases r <;> rfl
@[simp] theorem setResult_arg (r : Result) : (s.setResult r).arg = s.arg := by cases r <;> rfl
@[simp] theorem setResult_txIdx (r : Result) : (s.setResult r).txIdx = s.txIdx := by cases r <;> rfl
@[simp] theorem setResult_rxbuf (r : Result) : (s.setResult r).rxbuf = s.rxbuf := by cases r <;> rfl
@[simp] theorem setResult_rxCnt (r : Result) : (s.setResult r).rxCnt = s.rxCnt := by cases r <;> rfl
@[simp] theorem setResult_idleTmr (r : Result) : (s.setResult r).idleTmr = s.idleTmr := by cases r <;> rfl
@[simp] theorem setResult_done (r : Result) : (s.setResult r).done = s.done := by cases r <;> rfl
@[simp] theorem setResult_status (r : Result) : (s.setResult r).status = s.status := by cases r <;> rfl
@[simp] theorem setResult_bit (r : Result) : (s.setResult r).bit = s.bit := by cases r <;> rfl
@[simp] theorem setResult_cfg (r : Result) : (s.setResult r).cfg = s.cfg := by cases r <;> rfl
@[simp] theorem setResult_host (r : Result) : (s.setResult r).host = s.host := by cases r <;> rfl
@[simp] theorem setResult_openOk (r : Result) : (s.setResult r).openOk = s.openOk := by cases r <;> rfl
@[simp] theorem setResult_line (r : Result) : (s.setResult r).line = s.line := by cases r <;> rfl
@[simp] theorem setResult_rst (r : Result) : (s.setResult r).rst = s.rst := by cases r <;> rfl
@[simp] theorem setResult_txLine (r : Result) : (s.setResult r).txLine = s.txLine := by cases r <;> rfl

@[simp] theorem setResult_unit : s.setResult .unit = s := rfl
@[simp] theorem setResult_bool_resBool (b : Bool) : (s.setResult (.bool b)).resBool = b := rfl
@[simp] theorem setResult_byte_resByte (b : Byte) : (s.setResult (.byte b)).resByte = b := rfl
@[simp] theorem setResult_str_resStr (l : List Byte) : (s.setResult (.str l)).resStr = putStr s.free l := rfl
@[simp] theorem setResult_str_free (l : List Byte) : (s.setResult (.str l)).free = s.free + 25 := rfl
@[simp] theorem setResult_bool_free (b : Bool) : (s.setResult (.bool b)).free = s.free := rfl
@[simp] theorem setResult_byte_free (b : Byte) : (s.setResult (.byte b)).free = s.free := rfl
@[simp] theorem setResult_sample_free (c : Vector Half 6) (a : Byte) : (s.setResult (.sample c a)).free = s.free := rfl
@[simp] theorem setResult_str_resLen (l : List Byte) : (s.setResult (.str l)).resLen = BitVec.ofNat 5 l.length := rfl
@[simp] theorem setResult_sample_resCnt (c : Vector Half 6) (a : Byte) : (s.setResult (.sample c a)).resCnt = c := rfl
@[simp] theorem setResult_sample_resAlarm (c : Vector Half 6) (a : Byte) : (s.setResult (.sample c a)).resAlarm = a := rfl

end Sys2Proof.Machine.State
end

