-- ==== Sys2Proof/Laws/Exec.lean ====
section
/-! SUPPORT. What each shared operation can do, said once: every instruction is one of two shapes, and each phase of an
exchange answers one of a few named states. -/

namespace Sys2Proof.Machine

/-- The effect at acceptance of an opcode that is no device opcode. -/
def effectOf (op : Opcode) : State → State :=
  match op with
  | 0x1#4 => openEffect
  | 0x2#4 => closeEffect
  | 0x3#4 => isOpenedEffect
  | _ => reservedEffect

/-- Every instruction is a step of the sequencer or an effect at acceptance. -/
theorem exec_eq (i : Instr) (s : State) :
    exec i s =
      if isDeviceOp i.opcode then
        deviceStep i.opcode i.operand (argInRange i.opcode i.operand) (decoderOf i.opcode) s
      else atAcceptance i.opcode i.operand (effectOf i.opcode) s := by
  cases i <;> rfl

/-- An instruction in S_IDLE always answers a next state. -/
theorem exec_idle (i : Instr) (s : State) (h : s.seq = .idle) :
    exec i s = .next (if isDeviceOp i.opcode then acceptDevice i.opcode i.operand (argInRange i.opcode i.operand) s
      else effectOf i.opcode (s.latch i.opcode i.operand)) := by
  rw [exec_eq]; split <;> simp [deviceStep, atAcceptance, h]

theorem atAcceptance_busy (op : Opcode) (arg : Byte) (f : State → State) (s : State) (h : s.seq ≠ .idle) :
    atAcceptance op arg f s = .next s := by
  unfold atAcceptance; split <;> simp_all

/-- While an exchange is in flight every other command leaves the state as it is. -/
theorem exec_other (i : Instr) (s : State) (h : s.seq ≠ .idle)
    (hi : isDeviceOp i.opcode = true → ¬(s.op = i.opcode ∧ s.arg = i.operand)) : exec i s = .next s := by
  rw [exec_eq]
  split
  · next hd => have := hi hd; unfold deviceStep; split <;> simp_all
  · exact atAcceptance_busy _ _ _ _ h

/-- The command in flight, in S_TX. -/
theorem exec_tx (i : Instr) (s : State) (h : s.seq = .tx) (hd : isDeviceOp i.opcode = true) (ho : s.op = i.opcode)
    (ha : s.arg = i.operand) : exec i s = transmit s := by
  rw [exec_eq]; simp [hd, deviceStep, h, ho, ha]

/-- The command in flight, in S_RX. -/
theorem exec_rx (i : Instr) (s : State) (h : s.seq = .rx) (hd : isDeviceOp i.opcode = true) (ho : s.op = i.opcode)
    (ha : s.arg = i.operand) : exec i s = listenLine s := by
  rw [exec_eq]; simp [hd, deviceStep, h, ho, ha]

/-- The command in flight, in S_CHECK. -/
theorem exec_check (i : Instr) (s : State) (h : s.seq = .check) (hd : isDeviceOp i.opcode = true)
    (ho : s.op = i.opcode) (ha : s.arg = i.operand) :
    exec i s = check (minLen s.cfg i.opcode) (decoderOf i.opcode) s := by
  rw [exec_eq]; simp [hd, deviceStep, h, ho, ha]

/-- The step with `rst` at 1. -/
theorem step_reset (s : State) (hw : s.cfg.wf = true) (hr : s.rstNow = true) : step s = .next s.tick.resetRegisters := by
  simp [step, hw, hr]

/-- The step in S_IDLE with nothing presented. -/
theorem step_waits (s : State) (hw : s.cfg.wf = true) (hr : s.rstNow = false) (h : s.seq = .idle) (hh : s.host = []) :
    step s = .next s.tick := by
  simp [step, hw, hr, nextInstr, h, hh]

/-- The step in S_IDLE with a command presented. -/
theorem step_accepts (s : State) (c : Command) (rest : List Command) (hw : s.cfg.wf = true) (hr : s.rstNow = false)
    (h : s.seq = .idle) (hh : s.host = c :: rest) : step s = exec (decodeOp c.op c.arg) (s.tick.present c rest) := by
  simp [step, hw, hr, nextInstr, h, hh]

/-- The step while an exchange is in flight. -/
theorem step_continues (s : State) (hw : s.cfg.wf = true) (hr : s.rstNow = false) (h : s.seq ≠ .idle) :
    step s = exec (decodeOp s.op s.arg) s.tick := by
  cases hs : s.seq <;> simp_all [step, nextInstr]

/-- What a step that answers a next state has done. -/
theorem step_cases (s t : State) (h : step s = .next t) :
    s.cfg.wf = true ∧
      ((s.rstNow = true ∧ t = s.tick.resetRegisters) ∨
       (s.rstNow = false ∧ s.seq = .idle ∧ s.host = [] ∧ t = s.tick) ∨
       (s.rstNow = false ∧ s.seq = .idle ∧ ∃ c rest, s.host = c :: rest ∧
          exec (decodeOp c.op c.arg) (s.tick.present c rest) = .next t) ∨
       (s.rstNow = false ∧ s.seq ≠ .idle ∧ exec (decodeOp s.op s.arg) s.tick = .next t)) := by
  cases hw : s.cfg.wf
  · simp [step, hw] at h
  refine ⟨rfl, ?_⟩
  cases hr : s.rstNow
  · by_cases hs : s.seq = .idle
    · cases hh : s.host with
      | nil => rw [step_waits s hw hr hs hh] at h; cases h; simp [hs]
      | cons c rest => rw [step_accepts s c rest hw hr hs hh] at h; simp [hs, h]
    · rw [step_continues s hw hr hs] at h; simp [hs, h]
  · rw [step_reset s hw hr] at h; cases h; simp

/-- The three outcomes of the acceptance of a device command. -/
theorem acceptDevice_cases (op : Opcode) (arg : Byte) (argOk : Bool) (s : State) :
    (s.opened = false ∧ acceptDevice op arg argOk s = (s.latch op arg).raise .notOpened) ∨
    (s.opened = true ∧ argOk = false ∧ acceptDevice op arg argOk s = (s.latch op arg).raise .unknown) ∨
    (s.opened = true ∧ argOk = true ∧ acceptDevice op arg argOk s = (s.latch op arg).startExchange) := by
  cases ho : s.opened <;> cases ha : argOk <;> simp [acceptDevice, ho]

/-- What the transmit step can answer. -/
theorem transmit_cases (s t : State) (h : transmit s = .next t) :
    ∃ b, s.frame[s.txIdx.toNat]? = some b ∧
      ((s.txIdx.toNat + 1 = s.frame.length ∧ t = (s.sentByte b).openWindow) ∨
       (s.txIdx.toNat + 1 ≠ s.frame.length ∧ t = s.sentByte b)) := by
  unfold transmit at h
  split at h
  · cases h
  · next b hb =>
    refine ⟨b, hb, ?_⟩
    split at h
    · next he => exact .inl ⟨he, by simpa using h.symm⟩
    · next he => exact .inr ⟨he, by simpa using h.symm⟩

/-- What the receive step can answer. -/
theorem receive_cases (b : Byte) (s t : State) (h : receive b s = .next t) :
    s.rxCnt.toNat < Config.bufCap ∧
      ((s.rxCnt.toNat + 1 = Config.rxThresh ∧ t = (s.storeByte b).closeWindow) ∨
       (s.rxCnt.toNat + 1 ≠ Config.rxThresh ∧ t = s.storeByte b)) := by
  unfold receive at h
  split at h
  · cases h
  · next hc =>
    refine ⟨Nat.lt_of_not_le hc, ?_⟩
    split at h
    · next he => exact .inl ⟨he, by simpa using h.symm⟩
    · next he => exact .inr ⟨he, by simpa using h.symm⟩

/-- What the step in S_RX can answer: nothing happens on a silent line without a timer, the timer expires, or a byte is
received. -/
theorem listenLine_cases (s t : State) (h : listenLine s = .next t) :
    (s.line = [] ∧ timerRuns s = false ∧ t = s) ∨
    (timerRuns s = true ∧ (∀ c rest, s.line = c :: rest → Config.tIdle ≤ c.gap) ∧ t = s.expire) ∨
    (∃ c rest, s.line = c :: rest ∧ (timerRuns s = true → c.gap < Config.tIdle) ∧
      receive c.byte { s with line := rest } = .next t) := by
  unfold listenLine at h
  split at h
  · next hl =>
    split at h
    · next ht => exact .inr (.inl ⟨ht, by simp [hl], by simpa using h.symm⟩)
    · next ht => exact .inl ⟨hl, by simpa using ht, by simpa using h.symm⟩
  · next c rest hl =>
    split at h
    · next hg =>
      simp only [Bool.and_eq_true, decide_eq_true_eq] at hg
      refine .inr (.inl ⟨hg.1, ?_, by simpa using h.symm⟩)
      intro c' rest' he; rw [hl] at he; cases he; exact hg.2
    · next hg =>
      simp only [Bool.and_eq_true, decide_eq_true_eq, not_and, Nat.not_le] at hg
      exact .inr (.inr ⟨c, rest, hl, hg, h⟩)

/-- What the check step can answer: a validation error passed on, a decoder's own error, or a result. -/
theorem check_cases (n : Nat) (d : Decoder) (s t : State) (h : check n d s = .next t) :
    ∃ buf, Memory.readRange s.rxbuf 0 s.rxCnt.toNat = some buf ∧
      ((∃ e, validate buf n = .error e ∧ t = s.raise e) ∨
       (∃ v r, validate buf n = .ok v ∧ d buf = some r ∧ t = finish r s)) := by
  unfold check at h
  split at h
  · cases h
  · next buf hb =>
    refine ⟨buf, hb, ?_⟩
    split at h
    · next e he => exact .inl ⟨e, he, by simpa using h.symm⟩
    · next v hv =>
      split at h
      · cases h
      · next r hr => exact .inr ⟨v, r, hv, hr, by simpa using h.symm⟩

/-- OPEN's effect as one conditional. -/
theorem openEffect_eq (s : State) :
    openEffect s =
      if s.openOk then ((s.setOpened s.openOk).setResult (.bool s.openOk)).complete
      else ((s.setOpened s.openOk).setResult (.bool s.openOk)).raise .unknown := by
  unfold openEffect; cases s.openOk <;> rfl

/-- The effects at acceptance by opcode. -/
theorem effectOf_cases (op : Opcode) (s : State) :
    (op = 0x1#4 ∧ effectOf op s = openEffect s) ∨ (op = 0x2#4 ∧ effectOf op s = closeEffect s) ∨
    (op = 0x3#4 ∧ effectOf op s = isOpenedEffect s) ∨
    (op ≠ 0x1#4 ∧ op ≠ 0x2#4 ∧ op ≠ 0x3#4 ∧ effectOf op s = reservedEffect s) := by
  unfold effectOf; split <;> simp_all

/-- Everything exec can do when it answers a next state. -/
theorem exec_cases (i : Instr) (s t : State) (h : exec i s = .next t) :
    (s.seq = .idle ∧ isDeviceOp i.opcode = false ∧ t = effectOf i.opcode (s.latch i.opcode i.operand)) ∨
    (s.seq = .idle ∧ isDeviceOp i.opcode = true ∧
      t = acceptDevice i.opcode i.operand (argInRange i.opcode i.operand) s) ∨
    (s.seq ≠ .idle ∧ t = s) ∨
    (isDeviceOp i.opcode = true ∧ s.op = i.opcode ∧ s.arg = i.operand ∧
      ((s.seq = .tx ∧ transmit s = .next t) ∨ (s.seq = .rx ∧ listenLine s = .next t) ∨
       (s.seq = .check ∧ check (minLen s.cfg i.opcode) (decoderOf i.opcode) s = .next t))) := by
  by_cases hs : s.seq = .idle
  · rw [exec_idle i s hs] at h
    cases hd : isDeviceOp i.opcode <;> simp [hd] at h
    · exact .inl ⟨hs, rfl, h.symm⟩
    · exact .inr (.inl ⟨hs, rfl, h.symm⟩)
  · by_cases hf : isDeviceOp i.opcode = true ∧ s.op = i.opcode ∧ s.arg = i.operand
    · obtain ⟨hd, ho, ha⟩ := hf
      refine .inr (.inr (.inr ⟨hd, ho, ha, ?_⟩))
      cases hq : s.seq
      · exact absurd hq hs
      · exact .inl ⟨rfl, by rw [← exec_tx i s hq hd ho ha, h]⟩
      · exact .inr (.inl ⟨rfl, by rw [← exec_rx i s hq hd ho ha, h]⟩)
      · exact .inr (.inr ⟨rfl, by rw [← exec_check i s hq hd ho ha, h]⟩)
    · rw [exec_other i s hs fun hd hx => hf ⟨hd, hx⟩] at h
      exact .inr (.inr (.inl ⟨hs, by cases h; rfl⟩))

/-- A run's first step. -/
theorem run_succ {s t : State} {k : Nat} (h : step s = .next t) : core.run (k + 1) s = core.run k t := by
  have hc : core.step s = .next t := h
  simp only [Host.Core.run, hc]

/-- A run in two parts. -/
theorem run_add {a b : Nat} {s t : State} (h : core.run a s = .next t) : core.run (a + b) s = core.run b t := by
  induction a generalizing s with
  | zero => simp only [Host.Core.run] at h; cases h; simp
  | succ a ih =>
    rw [Nat.add_right_comm]
    cases hs : core.step s with
    | next u => simp only [Host.Core.run, hs] at h ⊢; exact ih h
    | fault r => simp [Host.Core.run, hs] at h
    | refused r => simp [Host.Core.run, hs] at h

end Sys2Proof.Machine
end

