-- ==== Sys2Proof/Laws/Operands.lean ====
section
/-! SUPPORT. What the field readers and the decoders answer on a buffer that is long enough. -/

namespace Sys2Proof.Machine

theorem byteAt_eq (buf : List Byte) (a : Nat) (h : a < buf.length) : byteAt buf a = some (buf.getD a 0#8) := by
  unfold byteAt; simp [h]

theorem bytesAt_eq (buf : List Byte) (a n : Nat) (h : a + n ≤ buf.length) :
    bytesAt buf a n = some ((buf.drop a).take n) := by
  induction n generalizing a with
  | zero => simp [bytesAt]
  | succ n ih =>
    have hlt : a < buf.length := by omega
    simp only [bytesAt, byteAt, List.getElem?_eq_getElem hlt, ih (a + 1) (by omega)]
    rw [← List.getElem_cons_drop hlt, List.take_succ_cons]

theorem bytesAt_length {buf : List Byte} {a n : Nat} {l : List Byte} (h : bytesAt buf a n = some l) : l.length = n := by
  induction n generalizing a l with
  | zero => simp [bytesAt] at h; simp [← h]
  | succ n ih =>
    simp only [bytesAt] at h
    split at h
    · next h2 => simp at h; subst h; simp [ih h2]
    · cases h

theorem be16_isSome (buf : List Byte) (a : Nat) (h : a + 1 < buf.length) : ∃ f, be16 buf a = some f := by
  unfold be16; rw [byteAt_eq buf a (by omega), byteAt_eq buf (a + 1) h]; exact ⟨_, rfl⟩

theorem be16s_isSome (buf : List Byte) (a n : Nat) (h : a + 2 * n ≤ buf.length) :
    ∃ fs, be16s buf a n = some fs ∧ fs.length = n := by
  induction n generalizing a with
  | zero => exact ⟨[], rfl, rfl⟩
  | succ n ih =>
    obtain ⟨f, hf⟩ := be16_isSome buf a (by omega)
    obtain ⟨fs, hfs, hl⟩ := ih (a + 2) (by omega)
    exact ⟨f :: fs, by simp [be16s, hf, hfs], by simp [hl]⟩

/-- A string put into RES_STR is read back from it. -/
theorem putStr_take (n : Nat) (l : List Byte) (h : l.length ≤ 25) :
    (State.putStr n l).toList.take l.length = l := by
  simp [State.putStr, List.take_take, Nat.min_eq_left h]

/-- On a buffer of the operation's minimum length no decoder reads beyond the bytes received. -/
theorem decoderOf_isSome (cfg : Config) (hw : cfg.wf = true) (op : Opcode) (hd : isDeviceOp op = true) (buf : List Byte)
    (hl : minLen cfg op ≤ buf.length) : ∃ r, decoderOf op buf = some r := by
  obtain ⟨hr, -, hs, -, hm, -⟩ := wf_minlens cfg hw
  rcases isDeviceOp_cases op hd with rfl | rfl | rfl | rfl | rfl | rfl | rfl <;> simp only [minLen] at hl
  · obtain ⟨fs, h, -⟩ := be16s_isSome buf 3 5 (by simp only [Config.minlenSerial] at hl; omega)
    simp [decoderOf, decodeSerialNo, h]
  · have h := bytesAt_eq buf 3 13 (by simp only [Config.minlenVersion] at hl; omega)
    simp [decoderOf, decodeSwVersion, h]
  · simp [decoderOf, decodeCalibRead, byteAt_eq buf 3 (by omega)]
  · simp [decoderOf, decodeCalibEcho, byteAt_eq buf 3 (by omega)]
  · simp [decoderOf, decodeMeasureOpened, byteAt_eq buf 3 (by simp only [Config.minlenMopen] at hl; omega)]
  · simp [decoderOf, decodeMeasureClosed, byteAt_eq buf 3 (by simp only [Config.minlenMclose] at hl; omega)]
  · obtain ⟨fs, h, hf⟩ := be16s_isSome buf 3 6 (by omega)
    match fs, hf with
    | [a, b, c, d, e, f], _ => simp [decoderOf, decodeMeasurement, h, sampleCounts, byteAt_eq buf 15 (by omega)]

end Sys2Proof.Machine
end

