-- ==== Sys2Proof/Laws/PerInstr.lean ====
section
/-! SUPPORT. Statements made of every instruction, one lemma per constructor. -/

namespace Sys2Proof.Laws.OpcodeMap

/-- Decoding an instruction's own opcode and operand gives it back, and it is well formed. -/
def Statement (i : Instr) : Prop := i.wf = true ∧ decodeOp i.opcode i.operand = i

theorem openLine (arg : Byte) : Statement (.openLine arg) := ⟨rfl, rfl⟩
theorem closeLine (arg : Byte) : Statement (.closeLine arg) := ⟨rfl, rfl⟩
theorem isOpened (arg : Byte) : Statement (.isOpened arg) := ⟨rfl, rfl⟩
theorem readSerialNo (arg : Byte) : Statement (.readSerialNo arg) := ⟨rfl, rfl⟩
theorem readSwVersion (arg : Byte) : Statement (.readSwVersion arg) := ⟨rfl, rfl⟩
theorem readCalibCoeff (arg : Byte) : Statement (.readCalibCoeff arg) := ⟨rfl, rfl⟩
theorem setupCalibCoeff (v : Byte) : Statement (.setupCalibCoeff v) := ⟨rfl, rfl⟩
theorem openParticleMeasurement (arg : Byte) : Statement (.openParticleMeasurement arg) := ⟨rfl, rfl⟩
theorem closeParticleMeasurement (arg : Byte) : Statement (.closeParticleMeasurement arg) := ⟨rfl, rfl⟩
theorem readParticleMeasurement (arg : Byte) : Statement (.readParticleMeasurement arg) := ⟨rfl, rfl⟩
theorem reserved0 (arg : Byte) : Statement (.reserved0 arg) := ⟨rfl, rfl⟩
theorem reservedB (arg : Byte) : Statement (.reservedB arg) := ⟨rfl, rfl⟩
theorem reservedC (arg : Byte) : Statement (.reservedC arg) := ⟨rfl, rfl⟩
theorem reservedD (arg : Byte) : Statement (.reservedD arg) := ⟨rfl, rfl⟩
theorem reservedE (arg : Byte) : Statement (.reservedE arg) := ⟨rfl, rfl⟩
theorem reservedF (arg : Byte) : Statement (.reservedF arg) := ⟨rfl, rfl⟩

end Sys2Proof.Laws.OpcodeMap
end

