-- ==== Sys2Proof/Tests/Slice0.lean ====
section
/-! SUPPORT. Tests on fixed values, each value from spec/95_test_vectors.md (V numbers) or from a rule, and for every
obligation with hypotheses a concrete case that meets them all. -/

open Sys2Proof Sys2Proof.Machine Sys2Proof.Claims

namespace Sys2Proof.Tests

/-! ## Helpers -/

/-- The state an answer holds. -/
def answered : Answer → Option State
  | .next t => some t
  | .fault _ => none
  | .refused _ => none

/-- The cells of a byte sequence from index a on. -/
def cells : Nat → List Byte → Memory
  | _, [] => []
  | a, b :: bs => (a, b) :: cells (a + 1) bs

/-- After reset, with the handle open. -/
def openState : State := { State.reset with opened := true }

/-- The exchange of a device command in the given phase, with some bytes received. -/
def inPhase (i : Instr) (q : Seq) (received : List Byte) : State :=
  { openState with
    op := i.opcode, arg := i.operand, seq := q
    rxbuf := cells 0 received, rxCnt := BitVec.ofNat 9 received.length }

/-- STATUS and the readable result after the check step of a device command. -/
def outcome (i : Instr) (received : List Byte) : Option (Status × Option Result) :=
  (answered (exec i (inPhase i .check received))).map fun t => (t.status, hostResult t)

/-- OPENED, STATUS and RES_BOOL after a command accepted in a state. -/
def atOnce (i : Instr) (s : State) : Option (Bool × Status × Option Bool) :=
  (answered (exec i s)).map fun t => (t.opened, t.status, resBoolPort t)

/-- A stream with one gap before every byte. -/
def everyGap (gap : Nat) (bs : List Byte) : List RxChar := bs.map fun b => { gap := gap, byte := b }

/-- V20's frame. -/
def frameV20 : List Byte :=
  [0x16#8, 0x0B#8, 0x1F#8, 0x00#8, 0x00#8, 0x04#8, 0xD2#8, 0x00#8, 0x00#8, 0x00#8, 0x00#8, 0x16#8, 0x2E#8, 0xA6#8]

/-- V21's frame. -/
def frameV21 : List Byte :=
  [0x16#8, 0x0E#8, 0x1E#8, 0x56#8, 0x31#8, 0x2E#8, 0x32#8, 0x2E#8, 0x33#8, 0x2D#8, 0x64#8, 0x65#8, 0x6D#8, 0x6F#8, 0x30#8,
   0x30#8, 0x44#8]

/-- V39's frame. -/
def frameV39 : List Byte := [0x16#8, 0x02#8, 0x0C#8, 0x02#8, 0xDA#8]

/-- V54's frame. -/
def frameV54 : List Byte := [0x16#8, 0x02#8, 0x0C#8, 0x01#8, 0xDB#8]

/-- V66's frame. -/
def frameV66 : List Byte := [0x16#8, 0x02#8, 0x07#8, 0x64#8, 0x7D#8]

/-- V92's frame. -/
def frameV92 : List Byte :=
  [0x16#8, 0x0E#8, 0x0B#8, 0x03#8, 0xE8#8, 0x03#8, 0x20#8, 0x01#8, 0x2C#8, 0x00#8, 0x78#8, 0x00#8, 0x0F#8, 0x00#8, 0x02#8,
   0x05#8, 0x08#8]

/-! ## Well-formedness: each check refuses an ill-formed configuration, and the defaults pass (R97, R205) -/

theorem test_default_config_accepted : Config.default.wf = true := by decide

theorem test_wf_refuses_wrong_head : { Config.default with reqRcal := [0x16#8, 0x01#8, 0x07#8, 0xE2#8] }.wf = false := by
  decide

theorem test_wf_refuses_wrong_len : { Config.default with reqRcal := [0x11#8, 0x02#8, 0x07#8, 0xE6#8] }.wf = false := by
  decide

theorem test_wf_refuses_wrong_checksum :
    { Config.default with reqRmeas := [0x11#8, 0x02#8, 0x0B#8, 0x07#8, 0xDC#8] }.wf = false := by decide

theorem test_wf_refuses_short_frame : Config.frameWf [0x11#8, 0x00#8, 0xEF#8] = false := by decide

set_option maxRecDepth 8000 in
theorem test_wf_refuses_long_frame : Config.frameWf (0x11#8 :: 0xFD#8 :: List.replicate 253 0#8 ++ [0xF2#8]) = false := by
  decide

theorem test_wf_refuses_position_of_cmd : { Config.default with scalPos := 2 }.wf = false := by decide

theorem test_wf_refuses_position_of_checksum : { Config.default with scalPos := 4 }.wf = false := by decide

theorem test_wf_refuses_wrong_template_len :
    { Config.default with scalBody := [0x11#8, 0x03#8, 0x07#8, 0x00#8] }.wf = false := by decide

theorem test_wf_refuses_minlens : { Config.default with minlenRcal := 4 }.wf = false ∧
    { Config.default with minlenScal := 57 }.wf = false ∧ { Config.default with minlenRmeas := 16 }.wf = false := by decide

/-! ## Decoding: every constructor's word from R110's opcode map, written out bit by bit: cmd_op, then cmd_arg -/

theorem test_decode_reserved0 : decodeWord 0b0000_00000000#12 = .reserved0 0x00#8 := by decide
theorem test_decode_open : decodeWord 0b0001_00000000#12 = .openLine 0x00#8 := by decide
theorem test_decode_close : decodeWord 0b0010_11111111#12 = .closeLine 0xFF#8 := by decide
theorem test_decode_isOpened : decodeWord 0b0011_00000000#12 = .isOpened 0x00#8 := by decide
theorem test_decode_readSerialNo : decodeWord 0b0100_00000000#12 = .readSerialNo 0x00#8 := by decide
theorem test_decode_readSwVersion : decodeWord 0b0101_10000000#12 = .readSwVersion 0x80#8 := by decide
theorem test_decode_readCalibCoeff : decodeWord 0b0110_00000001#12 = .readCalibCoeff 0x01#8 := by decide
theorem test_decode_setupCalibCoeff : decodeWord 0b0111_01100100#12 = .setupCalibCoeff 100#8 := by decide
theorem test_decode_openMeasurement : decodeWord 0b1000_11111111#12 = .openParticleMeasurement 0xFF#8 := by decide
theorem test_decode_closeMeasurement : decodeWord 0b1001_00000000#12 = .closeParticleMeasurement 0x00#8 := by decide
theorem test_decode_readMeasurement : decodeWord 0b1010_00000000#12 = .readParticleMeasurement 0x00#8 := by decide
theorem test_decode_reservedB : decodeWord 0b1011_00000000#12 = .reservedB 0x00#8 := by decide
theorem test_decode_reservedC : decodeWord 0b1100_00000000#12 = .reservedC 0x00#8 := by decide
theorem test_decode_reservedD : decodeWord 0b1101_00000000#12 = .reservedD 0x00#8 := by decide
theorem test_decode_reservedE : decodeWord 0b1110_00000000#12 = .reservedE 0x00#8 := by decide
theorem test_decode_reservedF : decodeWord 0b1111_00000000#12 = .reservedF 0x00#8 := by decide

/-- R115's own examples, as numbered by the opcode table. -/
theorem test_decode_table_words : decodeTableWord 16 0x764 = some (.setupCalibCoeff 100#8) ∧
    decodeTableWord 16 0x400 = some (.readSerialNo 0#8) ∧ decodeTableWord 16 0x1000 = none := by decide

theorem test_decode_bytes_rejects : decodeBytes [0x64#8] = .error .wrongLength ∧
    decodeBytes [0x64#8, 0x17#8] = .error .notTwelveBits := by decide

theorem test_encode_setup : encode (.setupCalibCoeff 100#8) = 0x764#12 := by decide

/-! ## Request frames and checksum -/

/-- V1 to V4. -/
theorem test_fixed_request_frames :
    rom Config.default 0x4#4 0#8 = [0x11#8, 0x01#8, 0x1F#8, 0xCF#8] ∧
    rom Config.default 0x5#4 0#8 = [0x11#8, 0x01#8, 0x1E#8, 0xD0#8] ∧
    rom Config.default 0x8#4 0#8 = [0x11#8, 0x03#8, 0x0C#8, 0x02#8, 0x1E#8, 0xC0#8] ∧
    rom Config.default 0x9#4 0#8 = [0x11#8, 0x03#8, 0x0C#8, 0x01#8, 0x1E#8, 0xC1#8] := by decide

/-- V5 to V9, the candidate templates of R98. -/
theorem test_candidate_request_frames :
    rom Config.default 0x6#4 0#8 = [0x11#8, 0x01#8, 0x07#8, 0xE7#8] ∧
    rom Config.default 0xA#4 0#8 = [0x11#8, 0x02#8, 0x0B#8, 0x07#8, 0xDB#8] ∧
    rom Config.default 0x7#4 10#8 = [0x11#8, 0x02#8, 0x07#8, 0x0A#8, 0xDC#8] ∧
    rom Config.default 0x7#4 100#8 = [0x11#8, 0x02#8, 0x07#8, 0x64#8, 0x82#8] ∧
    rom Config.default 0x7#4 250#8 = [0x11#8, 0x02#8, 0x07#8, 0xFA#8, 0xEC#8] := by decide

/-- V10 to V19. -/
theorem test_checksum : checksum [] = 0x00#8 ∧ checksum [0x01#8] = 0xFF#8 ∧ checksum [0xFF#8] = 0x01#8 ∧
    checksum [0x80#8, 0x80#8] = 0x00#8 ∧ checksum [0xFF#8, 0xFF#8, 0xFF#8, 0xFF#8] = 0x04#8 ∧
    checksum [0x16#8, 0x00#8] = 0xEA#8 ∧ checksum [0x16#8, 0x01#8, 0xE9#8] = 0x00#8 ∧
    checksum [0x11#8, 0x02#8, 0x07#8, 0xFA#8] = 0xEC#8 := by decide

/-! ## Validate: V30 to V49 -/

theorem test_validate_too_short : validate [] 5 = .error .insufficientData ∧
    validate [0x16#8] 5 = .error .insufficientData ∧ validate [0x16#8, 0x02#8] 5 = .error .insufficientData ∧
    validate [0x11#8, 0x02#8, 0x0C#8, 0x02#8] 5 = .error .insufficientData ∧
    validate [0x00#8, 0x16#8, 0x02#8, 0x0C#8, 0x02#8, 0xDA#8] 5 = .error .insufficientData ∧
    validate [0x16#8, 0x00#8, 0xEA#8] 5 = .error .insufficientData := by decide

theorem test_validate_head_and_checksum :
    validate [0x11#8, 0x02#8, 0x0C#8, 0x02#8, 0xDF#8] 5 = .error .rxHeader ∧
    validate [0x17#8, 0x02#8, 0x0C#8, 0x02#8, 0x00#8] 5 = .error .rxHeader ∧
    validate [0x16#8, 0x02#8, 0x0C#8, 0x02#8, 0xDB#8] 5 = .error .checksum ∧
    validate (List.replicate 56 0x00#8) 5 = .error .rxHeader := by decide

theorem test_validate_ok : validate frameV39 5 = .ok { offset := 2, length := 2 } ∧
    validate (frameV39 ++ [0xAA#8, 0xBB#8]) 5 = .ok { offset := 2, length := 2 } ∧
    validate [0x16#8, 0x00#8, 0xEA#8] 3 = .ok { offset := 2, length := 0 } := by decide

theorem test_validate_longest :
    validate ([0x16#8, 0x35#8, 0x0B#8] ++ List.replicate 52 0x00#8 ++ [0xAA#8]) 17 = .ok { offset := 2, length := 53 } ∧
    validate ([0x16#8, 0x36#8, 0x0B#8] ++ List.replicate 53 0x00#8) 17 = .error .insufficientData ∧
    validate (List.replicate 56 0xFF#8) 5 = .error .insufficientData := by decide

/-! ## The operations, one step each -/

/-- V71, V73. -/
theorem test_open_from_closed : atOnce (.openLine 0#8) { State.reset with openOk := true } = some (true, .ok, some true) ∧
    atOnce (.openLine 0#8) { State.reset with openOk := false } = some (false, .error .unknown, some false) := by decide

/-- V74, V75. -/
theorem test_open_from_open : atOnce (.openLine 0#8) { openState with openOk := true } = some (true, .ok, some true) ∧
    atOnce (.openLine 0#8) { openState with openOk := false } = some (false, .error .unknown, some false) := by decide

/-- V72, V76. -/
theorem test_close : atOnce (.closeLine 0#8) State.reset = some (false, .ok, some true) ∧
    atOnce (.closeLine 0#8) openState = some (false, .ok, some true) := by decide

/-- V77, V78. -/
theorem test_isOpened : atOnce (.isOpened 0#8) State.reset = some (false, .ok, some false) ∧
    atOnce (.isOpened 0#8) openState = some (true, .ok, some true) := by decide

/-- V79. -/
theorem test_reserved : (reservedInstrs 0#8).map (atOnce · openState) =
      List.replicate 6 (some (true, .error .unknown, none)) ∧
    (reservedInstrs 0#8).map (atOnce · State.reset) = List.replicate 6 (some (false, .error .unknown, none)) := by decide

/-- V97, V65: the argument 255 does not come before the closed handle. -/
theorem test_closed_handle : (deviceInstrs 255#8).map (atOnce · State.reset) =
    List.replicate 7 (some (false, .error .notOpened, none)) := by decide

/-- R61, R193, R270 against R42 (b), log 29, whatever a model does: a state with TX_IDX 6, as V120 leaves it in S_IDLE, and
OP the READ_SERIAL_NO that R193 latches has a TX_IDX above its frame. -/
theorem test_latched_serial_command_under_index_six :
    ∀ t : State, t.op = 0x4#4 → t.txIdx = 6#8 → ¬t.txIdx.toNat ≤ t.frame.length := by
  intro t ho hi
  simp [State.frame, ho, hi, rom]

/-- R270, R284, log 29: a rejected device command does nothing but report NotOpened, so TX_IDX keeps the 6 of an earlier
exchange beside a frame of 4 bytes. -/
theorem test_rejected_command_keeps_index :
    (answered (exec (.readSerialNo 0#8) { State.reset with txIdx := 6#8 })).map (fun t => (t.txIdx, t.frame.length)) =
      some (6#8, 4) := by decide

/-- V20, V80. -/
theorem test_readSerialNo : outcome (.readSerialNo 0#8) frameV20 =
      some (.ok, some (.str [0x31#8, 0x32#8, 0x33#8, 0x34#8, 0x35#8, 0x36#8, 0x37#8, 0x38#8])) ∧
    outcome (.readSerialNo 0#8) ([0x16#8, 0x0B#8, 0x1F#8] ++ List.replicate 10 0xFF#8 ++ [0xCA#8]) =
      some (.ok, some (.str (List.replicate 5 [0x36#8, 0x35#8, 0x35#8, 0x33#8, 0x35#8]).flatten)) := by decide

/-- V81, V87. -/
theorem test_readSerialNo_zeros :
    outcome (.readSerialNo 0#8) ([0x16#8, 0x0B#8, 0x1F#8] ++ List.replicate 10 0x00#8 ++ [0xC0#8]) =
      some (.ok, some (.str [0x30#8])) ∧
    outcome (.readSerialNo 0#8) ([0x16#8, 0x0B#8, 0x1F#8, 0x00#8, 0x64#8] ++ List.replicate 8 0x00#8 ++ [0x5C#8]) =
      some (.ok, some (.str [0x31#8, 0x30#8, 0x30#8])) := by decide

/-- V21, V90. -/
theorem test_readSwVersion : outcome (.readSwVersion 0#8) frameV21 =
      some (.ok, some (.str [0x56#8, 0x31#8, 0x2E#8, 0x32#8, 0x2E#8, 0x33#8, 0x2D#8, 0x64#8, 0x65#8, 0x6D#8, 0x6F#8, 0x30#8,
        0x30#8])) ∧
    outcome (.readSwVersion 0#8) frameV20 = some (.error .insufficientData, none) := by decide

/-- V68, V69. -/
theorem test_readCalibCoeff : outcome (.readCalibCoeff 0#8) frameV66 = some (.ok, some (.byte 100#8)) ∧
    outcome (.readCalibCoeff 0#8) [0x16#8, 0x02#8, 0x07#8, 0x00#8, 0xE1#8] = some (.ok, some (.byte 0#8)) := by decide

/-- V66, V67: the echo is not compared. -/
theorem test_setupCalibCoeff_echo : outcome (.setupCalibCoeff 100#8) frameV66 = some (.ok, some (.byte 100#8)) ∧
    outcome (.setupCalibCoeff 100#8) [0x16#8, 0x02#8, 0x07#8, 0x0A#8, 0xD7#8] = some (.ok, some (.byte 10#8)) := by decide

/-- V60, V63. -/
theorem test_setupCalibCoeff_range :
    atOnce (.setupCalibCoeff 9#8) openState = some (true, .error .unknown, none) ∧
    atOnce (.setupCalibCoeff 251#8) openState = some (true, .error .unknown, none) := by decide

/-- V50, V53. -/
theorem test_openMeasurement : outcome (.openParticleMeasurement 0#8) frameV39 = some (.ok, some .unit) ∧
    outcome (.openParticleMeasurement 0#8) [0x16#8, 0x02#8, 0x0C#8, 0xFF#8, 0xDD#8] =
      some (.error .measureNotOpened, none) := by decide

/-- V57, V58: the discriminator is not looked at after an error, the CMD byte never. -/
theorem test_openMeasurement_unchecked :
    outcome (.openParticleMeasurement 0#8) [0x16#8, 0x02#8, 0x0C#8, 0x02#8, 0x00#8] = some (.error .checksum, none) ∧
    outcome (.openParticleMeasurement 0#8) [0x16#8, 0x02#8, 0x1F#8, 0x02#8, 0xC7#8] = some (.ok, some .unit) := by decide

/-- V54, V55. -/
theorem test_closeMeasurement : outcome (.closeParticleMeasurement 0#8) frameV54 = some (.ok, some .unit) ∧
    outcome (.closeParticleMeasurement 0#8) frameV39 = some (.error .measureNotClosed, none) := by decide

/-- V92, V96. -/
theorem test_readMeasurement : outcome (.readParticleMeasurement 0#8) frameV92 =
      some (.ok, some (.sample #v[1000#16, 800#16, 300#16, 120#16, 15#16, 2#16] 5#8)) ∧
    outcome (.readParticleMeasurement 0#8) frameV39 = some (.error .insufficientData, none) := by decide

/-- R260's codes 0 to 7. -/
theorem test_status_codes :
    ([.ok, .error .rxHeader, .error .insufficientData, .error .checksum, .error .notOpened, .error .measureNotOpened,
      .error .measureNotClosed, .error .unknown] : List Status).map Status.code =
      [0#4, 1#4, 2#4, 3#4, 4#4, 5#4, 6#4, 7#4] := by decide

/-- V21 at the ports: RES_LEN is 13, RES_STR[12] is 30, RES_STR[13] has no meaning, nor has RES_BYTE. -/
theorem test_string_ports :
    (answered (exec (.readSwVersion 0#8) (inPhase (.readSwVersion 0#8) .check frameV21))).map
      (fun t => (resLenPort t, resStrPort t 12, resStrPort t 13, resBytePort t)) =
      some (some 13#5, some 0x30#8, none, none) := by decide

/-! ## The read: V100 to V110 -/

theorem test_capture_ends : capture .atCaptureStart [] = some [] ∧ capture .atFirstByte [] = none ∧
    capture .atCaptureStart [⟨959, 0x16#8⟩] = some [0x16#8] ∧ capture .atCaptureStart [⟨960, 0x16#8⟩] = some [] := by decide

theorem test_capture_first_gap :
    capture .atFirstByte (⟨5000, 0x16#8⟩ :: everyGap 10 [0x02#8, 0x0C#8, 0x02#8, 0xDA#8]) = some frameV39 ∧
    capture .atCaptureStart (⟨5000, 0x16#8⟩ :: everyGap 10 [0x02#8, 0x0C#8, 0x02#8, 0xDA#8]) = some [] := by decide

theorem test_capture_threshold :
    capture .atCaptureStart (everyGap 10 (List.replicate 60 0xAA#8)) = some (List.replicate 56 0xAA#8) ∧
    capture .atFirstByte (everyGap 10 (List.replicate 55 0xAA#8)) = some (List.replicate 55 0xAA#8) := by decide

/-- V106, V107: the pause of 960 ends the read, that of 959 does not. -/
theorem test_exchange_pause :
    ((exchange Config.default 0x8#4 0#8
        (everyGap 10 [0x16#8, 0x02#8, 0x0C#8] ++ [⟨960, 0x02#8⟩, ⟨10, 0xDA#8⟩])).map Effect.status) =
      some (.error .insufficientData) ∧
    ((exchange Config.default 0x8#4 0#8
        (everyGap 10 [0x16#8, 0x02#8, 0x0C#8] ++ [⟨959, 0x02#8⟩, ⟨10, 0xDA#8⟩])).map Effect.status) = some .ok := by decide

/-! ## The bit level: V115 to V119, and the edges of the receiver -/

theorem test_char_levels :
    charLevels 0x11#8 = [false, true, false, false, false, true, false, false, false, true] ∧
    charLevels 0x16#8 = [false, false, true, true, false, true, false, false, false, true] ∧
    charLevels 0xCF#8 = [false, true, true, true, true, false, false, true, true, true] := by decide

/-- R152: at 153600 Hz one bit period is 16 cycles, at 1 MHz 104. -/
theorem test_bit_period : bitDiv Config.default = 16 ∧ bitDiv { Config.default with fClk := 1000000 } = 104 := by decide

/-- R153: an edge behind the synchroniser starts a character; level 1 half a bit period later was a glitch. -/
theorem test_receiver_start :
    ({ BitState.idle with rxPrev := true }.rxClock 16 false).1.rxPhase = .start ∧
    ({ BitState.idle with rxPhase := .start, rxSample := 7, sync1 := true }.rxClock 16 true).1.rxPhase = .waiting := by
  decide

/-- R154: the level of the stop bit is not checked. -/
theorem test_receiver_stop :
    ({ BitState.idle with rxPhase := .stop, rxSample := 15, rxShift := 0x16#8 }.rxClock 16 false).2 = some 0x16#8 := by decide

/-! ## A case for every obligation with hypotheses -/

/-- A command with its environment. -/
def command (op : Opcode) (arg : Byte) (stream : List RxChar) : Command :=
  { op := op, arg := arg, openOk := true, stream := stream }

/-- V8's command in S_TX, one byte sent. -/
def sending : State := { inPhase (.setupCalibCoeff 100#8) .tx [] with txIdx := 1#8 }

/-- OPEN_PARTICLE_MEASUREMENT in S_RX with two bytes received and the third on the line. -/
def receiving (gap : Nat) : State :=
  { inPhase (.openParticleMeasurement 0#8) .rx [0x16#8, 0x02#8] with txIdx := 6#8, line := [⟨gap, 0x0C#8⟩] }

/-- The same with 54 bytes received: the 56th byte is not the next one. -/
def receivingLastButOne : State :=
  { inPhase (.openParticleMeasurement 0#8) .rx (List.replicate 54 0xAA#8) with
    txIdx := 6#8, line := [⟨959, 0x0C#8⟩, ⟨10, 0x0D#8⟩] }

/-- The same with 55 bytes received. -/
def receivingLast : State :=
  { inPhase (.openParticleMeasurement 0#8) .rx (List.replicate 55 0xAA#8) with
    txIdx := 6#8, line := [⟨959, 0x0C#8⟩, ⟨10, 0x0D#8⟩] }

theorem witness_StepRunsTheDecodedCommand_presented :
    let c := command 0x8#4 0#8 []
    let s := { openState with host := [c] }
    s.cfg.wf = true ∧ s.rstNow = false ∧ s.seq = .idle ∧ s.host = c :: [] ∧
      decodeOp c.op c.arg = .openParticleMeasurement 0#8 := by decide

theorem witness_StepRunsTheDecodedCommand_inFlight : sending.cfg.wf = true ∧ sending.rstNow = false ∧
    sending.seq ≠ .idle ∧ decodeOp sending.op sending.arg = .setupCalibCoeff 100#8 := by decide

theorem witness_StepRunsTheDecodedCommand_waiting : State.reset.cfg.wf = true ∧ State.reset.rstNow = false ∧
    State.reset.seq = .idle ∧ State.reset.host = [] := by decide

theorem witness_PlacedWordRunsNext : sending.cfg.wf = true ∧ decodeTableWord 16 0xFFF = some (.reservedF 0xFF#8) := by
  decide

theorem witness_BadConfigurationIsRefused :
    { State.reset with cfg := { Config.default with minlenRmeas := 16 } }.cfg.wf = false := by decide

theorem witness_ResetWinsOverEverything :
    let s := { sending with rst := [true] }
    s.cfg.wf = true ∧ s.rstNow = true ∧ { quiet true with rst := true }.rst = true := by decide

theorem witness_OpenTakesThePlatformsAnswer : State.reset.seq = .idle ∧ State.reset.openOk = true ∧
    openState.seq = .idle ∧ { openState with openOk := false }.openOk = false := by decide

theorem witness_CloseSucceedsAndIsIdempotent : openState.seq = .idle ∧ openState.opened = true := by decide

theorem witness_IsOpenedReportsTheHandle : openState.seq = .idle ∧ openState.opened = true := by decide

theorem witness_ReservedOpcodesReportUnknown : openState.seq = .idle ∧ Instr.reservedF 255#8 ∈ reservedInstrs 255#8 := by
  decide

theorem witness_ClosedHandleRejectsDeviceCommands : State.reset.seq = .idle ∧ State.reset.opened = false ∧
    Instr.setupCalibCoeff 0#8 ∈ deviceInstrs 0#8 ∧
    Instr.isOpened 0#8 ∈ [Instr.openLine 0#8, Instr.closeLine 0#8, Instr.isOpened 0#8] := by decide

theorem witness_CalibrationArgumentOutOfRangeIsRejected : openState.seq = .idle ∧ openState.opened = true ∧
    (9#8).toNat < 10 ∧ 250 < (251#8).toNat := by decide

theorem witness_OpenHandleStartsTheExchange : openState.seq = .idle ∧ openState.opened = true ∧
    Instr.setupCalibCoeff 10#8 ∈ deviceInstrs 10#8 ∧ 10 ≤ (10#8).toNat ∧ (250#8).toNat ≤ 250 ∧
    Instr.readSerialNo 0#8 ∈ deviceInstrs 0#8 ∧ Instr.readSerialNo 0#8 ≠ Instr.setupCalibCoeff 0#8 := by decide

theorem witness_BusyEngineAcceptsNoOtherCommand :
    sending.seq ≠ .idle ∧ ¬InFlight (.setupCalibCoeff 101#8) sending ∧ ¬InFlight (.openLine 0#8) sending :=
  ⟨by decide, fun h => absurd h.2.2 (by decide), fun h => absurd h.1 (by decide)⟩

theorem witness_ArgumentMattersOnlyToCalibrationSetup :
    (receiving 10).seq ≠ .idle ∧ (receiving 10).rstNow = false ∧ (receiving 10).op ≠ 0x7#4 := by decide

theorem witness_TransmitStepSendsTheNextByte_middle : InFlight (.setupCalibCoeff 100#8) sending ∧ sending.seq = .tx ∧
    (rom sending.cfg sending.op sending.arg)[sending.txIdx.toNat]? = some 0x02#8 ∧
    sending.txIdx.toNat + 1 ≠ (rom sending.cfg sending.op sending.arg).length :=
  ⟨⟨rfl, rfl, rfl⟩, by decide, by decide, by decide⟩

theorem witness_TransmitStepSendsTheNextByte_last :
    let s := { sending with txIdx := 4#8 }
    InFlight (.setupCalibCoeff 100#8) s ∧ s.seq = .tx ∧ (rom s.cfg s.op s.arg)[s.txIdx.toNat]? = some 0x82#8 ∧
      s.txIdx.toNat + 1 = (rom s.cfg s.op s.arg).length :=
  ⟨⟨rfl, rfl, rfl⟩, by decide, by decide, by decide⟩

theorem witness_ReceiveStepStoresTheByteAtRxCnt : InFlight (.openParticleMeasurement 0#8) (receiving 959) ∧
    (receiving 959).seq = .rx ∧ (receiving 959).rxCnt.toNat < 56 ∧ (receiving 959).line = ⟨959, 0x0C#8⟩ :: [] ∧
    (timerRuns (receiving 959) = true → (RxChar.mk 959 0x0C#8).gap < 960) :=
  ⟨⟨rfl, rfl, rfl⟩, by decide, by decide, by decide, by decide⟩

theorem witness_ReadEndsAtTheFiftySixthByte_last : InFlight (.openParticleMeasurement 0#8) receivingLast ∧
    receivingLast.seq = .rx ∧ receivingLast.rxCnt.toNat = 55 ∧
    receivingLast.line = ⟨959, 0x0C#8⟩ :: [⟨10, 0x0D#8⟩] ∧
    (timerRuns receivingLast = true → (RxChar.mk 959 0x0C#8).gap < 960) :=
  ⟨⟨rfl, rfl, rfl⟩, by decide, by decide, by decide, by decide⟩

theorem witness_ReadEndsAtTheFiftySixthByte_before :
    InFlight (.openParticleMeasurement 0#8) receivingLastButOne ∧
    receivingLastButOne.seq = .rx ∧ receivingLastButOne.rxCnt.toNat < 56 ∧ receivingLastButOne.rxCnt.toNat = 54 ∧
    receivingLastButOne.line = ⟨959, 0x0C#8⟩ :: [⟨10, 0x0D#8⟩] ∧
    (timerRuns receivingLastButOne = true → (RxChar.mk 959 0x0C#8).gap < 960) :=
  ⟨⟨rfl, rfl, rfl⟩, by decide, by decide, by decide, by decide, by decide⟩

theorem witness_InactivityEndsTheRead : InFlight (.openParticleMeasurement 0#8) (receiving 960) ∧
    (receiving 960).seq = .rx ∧ timerRuns (receiving 960) = true ∧
    ∀ c rest, (receiving 960).line = c :: rest → 960 ≤ c.gap :=
  ⟨⟨rfl, rfl, rfl⟩, by decide, by decide, fun c rest h => by cases h; decide⟩

theorem witness_TimerRunsFromTheParametersMoment :
    let s := { receiving 10 with cfg := { Config.default with idleStart := .atFirstByte } }
    timerRuns s = true ∧ 0 < s.rxCnt.toNat ∧ timerRuns { s with rxCnt := 0#9 } = false := by decide

/-- A state in S_RX with the line idle: the divider and the timer at the given values. -/
def silent (div : Nat) (timer : BitVec 10) : State :=
  { receiving 10 with idleTmr := timer, bit := { BitState.idle with sync0 := true, sync1 := true, div := div } }

/-- Within a bit period, at its end, at the end of the last one, and at its end with a timer that does not run. -/
theorem witness_TimerRunsFromTheParametersMoment_clock :
    let late := { silent 15 0#10 with cfg := { Config.default with idleStart := .atFirstByte }, rxCnt := 0#9 }
    (∀ s ∈ [silent 14 958#10, silent 15 958#10, silent 15 959#10, late],
      s.cfg.wf = true ∧ (quiet true).rst = false ∧ s.seq = .rx ∧ s.idleTmr.toNat < 960 ∧
        (s.bit.rxClock (bitDiv s.cfg) (quiet true).uartRx).2 = none) ∧
    (silent 14 958#10).bit.div + 1 < bitDiv (silent 14 958#10).cfg ∧
    ¬(silent 15 958#10).bit.div + 1 < bitDiv (silent 15 958#10).cfg ∧ timerRuns (silent 15 958#10) = true ∧
    timerRuns late = false := by decide

theorem witness_TimerRunsFromTheParametersMoment_outside : (quiet true).rst = false ∧ sending.seq ≠ .rx ∧
    ∃ t, clockStep (quiet true) sending = .next t := ⟨rfl, by decide, _, rfl⟩

/-- R201, R28: the timer goes up by one per bit period of 16 clk cycles, and at 960 the read ends. -/
theorem test_timer_counts_bit_periods :
    (answered (clockRun (List.replicate 32 (quiet true)) (silent 0 5#10))).map (fun t => (t.idleTmr, t.seq)) =
      some (7#10, .rx) ∧
    (answered (clockStep (quiet true) (silent 15 959#10))).map (fun t => (t.idleTmr, t.seq)) =
      some (960#10, .check) := by decide

theorem witness_ValidationErrorIsReported :
    let s := inPhase (.openParticleMeasurement 0#8) .check [0x16#8, 0x02#8, 0x0C#8, 0x02#8, 0x00#8]
    InFlight (.openParticleMeasurement 0#8) s ∧ s.seq = .check ∧
      Received s [0x16#8, 0x02#8, 0x0C#8, 0x02#8, 0x00#8] ∧
      validate [0x16#8, 0x02#8, 0x0C#8, 0x02#8, 0x00#8] (minLen s.cfg (Instr.openParticleMeasurement 0#8).opcode) =
        .error .checksum :=
  ⟨⟨rfl, rfl, rfl⟩, by decide, rfl, by decide⟩

theorem witness_SerialNumberIsDecoded :
    let s := inPhase (.readSerialNo 0#8) .check frameV20
    InFlight (.readSerialNo 0#8) s ∧ s.seq = .check ∧ Received s frameV20 ∧
      validate frameV20 14 = .ok { offset := 2, length := 11 } :=
  ⟨⟨rfl, rfl, rfl⟩, by decide, rfl, by decide⟩

theorem witness_VersionIsCopiedRaw :
    let s := inPhase (.readSwVersion 0#8) .check frameV21
    InFlight (.readSwVersion 0#8) s ∧ s.seq = .check ∧ Received s frameV21 ∧
      validate frameV21 17 = .ok { offset := 2, length := 14 } :=
  ⟨⟨rfl, rfl, rfl⟩, by decide, rfl, by decide⟩

theorem witness_CalibrationByteIsReturnedUnchecked_read :
    let s := inPhase (.readCalibCoeff 0#8) .check frameV66
    s.cfg.wf = true ∧ s.seq = .check ∧ Received s frameV66 ∧ InFlight (.readCalibCoeff 0#8) s ∧
      validate frameV66 s.cfg.minlenRcal = .ok { offset := 2, length := 2 } :=
  ⟨by decide, by decide, rfl, ⟨rfl, rfl, rfl⟩, by decide⟩

theorem witness_CalibrationByteIsReturnedUnchecked_setup :
    let s := inPhase (.setupCalibCoeff 100#8) .check frameV66
    s.cfg.wf = true ∧ s.seq = .check ∧ Received s frameV66 ∧ InFlight (.setupCalibCoeff 100#8) s ∧
      validate frameV66 s.cfg.minlenScal = .ok { offset := 2, length := 2 } :=
  ⟨by decide, by decide, rfl, ⟨rfl, rfl, rfl⟩, by decide⟩

theorem witness_DiscriminatorDecidesTheMeasurementCommands_open :
    let s := inPhase (.openParticleMeasurement 0#8) .check frameV39
    s.seq = .check ∧ Received s frameV39 ∧ validate frameV39 5 = .ok { offset := 2, length := 2 } ∧
      InFlight (.openParticleMeasurement 0#8) s :=
  ⟨by decide, rfl, by decide, ⟨rfl, rfl, rfl⟩⟩

theorem witness_DiscriminatorDecidesTheMeasurementCommands_close :
    let s := inPhase (.closeParticleMeasurement 0#8) .check frameV54
    s.seq = .check ∧ Received s frameV54 ∧ validate frameV54 5 = .ok { offset := 2, length := 2 } ∧
      InFlight (.closeParticleMeasurement 0#8) s :=
  ⟨by decide, rfl, by decide, ⟨rfl, rfl, rfl⟩⟩

theorem witness_MeasurementIsDecoded :
    let s := inPhase (.readParticleMeasurement 0#8) .check frameV92
    s.cfg.wf = true ∧ InFlight (.readParticleMeasurement 0#8) s ∧ s.seq = .check ∧ Received s frameV92 ∧
      validate frameV92 s.cfg.minlenRmeas = .ok { offset := 2, length := 14 } :=
  ⟨by decide, ⟨rfl, rfl, rfl⟩, by decide, rfl, by decide⟩

theorem witness_DecodersReadOnlyTheirFields :
    ∀ k, 3 ≤ k → k + 2 ≤ minLen Config.default 0x8#4 →
      frameV39[k]? = [0x00#8, 0x00#8, 0x00#8, 0x02#8, 0x00#8, 0x00#8][k]? := by
  intro k h3 h5
  have h : k = 3 := by simp [minLen, Config.minlenMopen] at h5; omega
  subst h; decide

theorem witness_OneAlteredByteIsDetected : validate frameV39 5 = .ok { offset := 2, length := 2 } ∧
    frameV39[0]? ≠ some 0x17#8 ∧ 0 < 2 + 3 ∧ frameV39[2]? ≠ some 0x0D#8 ∧ frameV39[4]? ≠ some 0xDB#8 ∧ 4 < 2 + 3 := by decide

theorem witness_BytesAfterTheFrameAreIgnored : validate frameV39 5 = .ok { offset := 2, length := 2 } ∧
    5 ≤ 2 + 3 + ([] : List Byte).length := by decide

theorem witness_LongResponsesNeverValidate :
    let buf := [0x16#8, 0x36#8, 0x0B#8] ++ List.replicate 53 0x00#8
    let s := inPhase (.readParticleMeasurement 0#8) .check buf
    InFlight (.readParticleMeasurement 0#8) s ∧ s.seq = .check ∧ Received s buf ∧ s.rxCnt.toNat ≤ 56 ∧
      54 ≤ (buf.getD 1 0#8).toNat :=
  ⟨⟨rfl, rfl, rfl⟩, by decide, rfl, by decide, by decide⟩

theorem witness_TemplateRomHoldsTheRequestFrames : (0x6#4 : Opcode) ≠ 0x7#4 := by decide

theorem witness_EveryRequestIsAWellFormedFrame : Config.default.wf = true ∧ isDeviceOp 0x4#4 = true ∧
    isDeviceOp 0xA#4 = true := by decide

theorem witness_CalibrationFrameCarriesItsArgument : Config.default.wf = true ∧ 2 ≠ Config.default.scalPos ∧
    2 + 1 ≠ (reqScal Config.default 0xFF#8).length := by decide

theorem witness_OnlyOpenAndCloseChangeTheHandle :
    ∃ t, exec (.openLine 0#8) State.reset = .next t ∧ t.opened ≠ State.reset.opened := ⟨_, rfl, by decide⟩

theorem witness_OnlyTheReceiveStepWritesRxbuf : ∃ t, exec (.openParticleMeasurement 0#8) (receiving 10) = .next t ∧
    ((receiving 10).seq = .rx → 1 ≠ (receiving 10).rxCnt.toNat) := ⟨_, rfl, by decide⟩

theorem witness_ResultRegistersAreWrittenByTheirOwnCommands_bool :
    ∃ t, exec (.closeLine 0#8) openState = .next t ∧ t.resBool ≠ openState.resBool := ⟨_, rfl, by decide⟩

theorem witness_ResultRegistersAreWrittenByTheirOwnCommands_byte :
    let s := inPhase (.readCalibCoeff 0#8) .check frameV66
    ∃ t, exec (.readCalibCoeff 0#8) s = .next t ∧ t.resByte ≠ s.resByte := ⟨_, rfl, by decide⟩

theorem witness_ResultRegistersAreWrittenByTheirOwnCommands_string :
    let s := inPhase (.readSwVersion 0#8) .check frameV21
    ∃ t, exec (.readSwVersion 0#8) s = .next t ∧ t.resStr ≠ s.resStr ∧ t.resLen ≠ s.resLen :=
  ⟨_, rfl, fun h => absurd (congrArg (fun v => v[0]) h) (by decide), by decide⟩

theorem witness_ResultRegistersAreWrittenByTheirOwnCommands_sample :
    let s := inPhase (.readParticleMeasurement 0#8) .check frameV92
    ∃ t, exec (.readParticleMeasurement 0#8) s = .next t ∧ t.resCnt ≠ s.resCnt ∧ t.resAlarm ≠ s.resAlarm :=
  ⟨_, rfl, by decide, by decide⟩

theorem witness_LatchedCommandIsKeptToCompletion_busy : (∃ t, exec (.setupCalibCoeff 100#8) sending = .next t) ∧
    sending.seq ≠ .idle ∧ sending.seq = .tx ∧ sending.cfg.wf = true := ⟨⟨_, rfl⟩, by decide, by decide, by decide⟩

theorem witness_LatchedCommandIsKeptToCompletion_idle : (∃ t, exec (.isOpened 0x55#8) openState = .next t) ∧
    openState.seq = .idle := ⟨⟨_, rfl⟩, by decide⟩

theorem witness_LatchedCommandIsKeptToCompletion_completes : openState.seq = .idle ∧
    ∃ t, exec (.isOpened 0x55#8) openState = .next t ∧ t.seq = .idle := ⟨by decide, _, rfl, by decide⟩

theorem witness_LatchedCommandIsKeptToCompletion_starts : openState.seq = .idle ∧
    ∃ t, exec (.readSerialNo 0#8) openState = .next t ∧ t.seq ≠ .idle := ⟨by decide, _, rfl, by decide⟩

theorem witness_SequencerFollowsItsStateGraph_start :
    let s := { openState with host := [command 0x8#4 0#8 []] }
    s.rstNow = false ∧ ∃ t, step s = .next t ∧ t.seq ≠ s.seq := ⟨by decide, _, rfl, by decide⟩

theorem witness_SequencerFollowsItsStateGraph_sent :
    let s := { sending with txIdx := 4#8 }
    s.rstNow = false ∧ ∃ t, step s = .next t ∧ t.seq ≠ s.seq := ⟨by decide, _, rfl, by decide⟩

theorem witness_SequencerFollowsItsStateGraph_received : receivingLast.rstNow = false ∧
    (∃ t, step receivingLast = .next t ∧ t.seq ≠ receivingLast.seq) ∧
    ∃ t, step (receiving 960) = .next t ∧ t.seq ≠ (receiving 960).seq :=
  ⟨by decide, ⟨_, rfl, by decide⟩, _, rfl, by decide⟩

theorem witness_SequencerFollowsItsStateGraph_checked :
    let s := inPhase (.openParticleMeasurement 0#8) .check frameV39
    s.rstNow = false ∧ ∃ t, step s = .next t ∧ t.seq ≠ s.seq := ⟨by decide, _, rfl, by decide⟩

/-- The invariant holds in the middle of a request. -/
theorem sending_inv : Inv sending where
  cfgWf := by decide
  memWf := by decide
  rxCntLe := by decide
  txIdxLe := fun _ => by decide
  txIdxOfFrame := ⟨0x8#4, 0#8, by decide⟩
  txIdxLt := fun _ => by decide
  rxCntLt := fun h => absurd h (by decide)
  busyOpen := fun _ => by decide
  doneIdle := fun h => absurd h (by decide)
  idleTmrLe := by decide
  idleTmrLt := by decide
  filled := fun i hi => absurd hi (Nat.not_lt_zero i)

/-- The invariant holds after two received bytes. -/
theorem receiving_inv : Inv (receiving 10) where
  cfgWf := by decide
  memWf := by decide
  rxCntLe := by decide
  txIdxLe := fun _ => by decide
  txIdxOfFrame := ⟨0x8#4, 0#8, by decide⟩
  txIdxLt := fun h => absurd h (by decide)
  rxCntLt := fun _ => by decide
  busyOpen := fun _ => by decide
  doneIdle := fun h => absurd h (by decide)
  idleTmrLe := by decide
  idleTmrLt := by decide
  filled := by
    have h : ∀ i < 2, (Memory.read (receiving 10).rxbuf i).isSome := by decide
    exact h

/-- V39's frame received, about to be checked. -/
def checking : State := { inPhase (.openParticleMeasurement 0#8) .check frameV39 with txIdx := 6#8 }

/-- The invariant holds before the check. -/
theorem checking_inv : Inv checking where
  cfgWf := by decide
  memWf := by decide
  rxCntLe := by decide
  txIdxLe := fun _ => by decide
  txIdxOfFrame := ⟨0x8#4, 0#8, by decide⟩
  txIdxLt := fun h => absurd h (by decide)
  rxCntLt := fun h => absurd h (by decide)
  busyOpen := fun _ => by decide
  doneIdle := fun h => absurd h (by decide)
  idleTmrLe := by decide
  idleTmrLt := by decide
  filled := by
    have h : ∀ i < 5, (Memory.read checking.rxbuf i).isSome := by decide
    exact h

/-- The invariant holds in S_IDLE with CLOSE presented. -/
theorem presented_inv : Inv { openState with host := [command 0x2#4 0#8 []] } where
  cfgWf := by decide
  memWf := by decide
  rxCntLe := by decide
  txIdxLe := fun _ => by decide
  txIdxOfFrame := ⟨0x8#4, 0#8, by decide⟩
  txIdxLt := fun h => absurd h (by decide)
  rxCntLt := fun h => absurd h (by decide)
  busyOpen := fun h => absurd rfl h
  doneIdle := fun _ => rfl
  idleTmrLe := by decide
  idleTmrLt := by decide
  filled := fun i hi => absurd hi (Nat.not_lt_zero i)

theorem witness_SequencerFollowsItsStateGraph_keepsIdle :
    let s := { openState with host := [command 0x2#4 0#8 []] }
    Inv s ∧ s.rstNow = false ∧ s.seq = .idle ∧ ∃ t, step s = .next t ∧ t.seq = .idle :=
  ⟨presented_inv, by decide, by decide, _, rfl, by decide⟩

theorem witness_SequencerFollowsItsStateGraph_keepsTx : Inv sending ∧ sending.rstNow = false ∧ sending.seq = .tx ∧
    ∃ t, step sending = .next t ∧ t.seq = .tx := ⟨sending_inv, by decide, by decide, _, rfl, by decide⟩

theorem witness_SequencerFollowsItsStateGraph_keepsRx : Inv (receiving 10) ∧ (receiving 10).rstNow = false ∧
    (receiving 10).seq = .rx ∧ ∃ t, step (receiving 10) = .next t ∧ t.seq = .rx :=
  ⟨receiving_inv, by decide, by decide, _, rfl, by decide⟩

theorem witness_SequencerFollowsItsStateGraph_leavesCheck : Inv checking ∧ checking.rstNow = false ∧
    checking.seq = .check ∧ ∃ t, step checking = .next t := ⟨checking_inv, by decide, by decide, _, rfl⟩

theorem witness_EngineIsHalfDuplex : sending.rstNow = false ∧ (∃ t, step sending = .next t ∧ t.txLine ≠ sending.txLine) ∧
    ∃ t, step (receiving 10) = .next t ∧ t.rxbuf ≠ (receiving 10).rxbuf :=
  ⟨by decide, ⟨_, rfl, by decide⟩, _, rfl, by decide⟩

theorem witness_NoResultIsReadableWithoutSuccess_failedOpen :
    let s := { openState with done := true, op := 0x1#4, status := .error .unknown }
    s.status ≠ .ok ∧ s.op = 0x1#4 ∧ resBoolPort s = some s.resBool := by decide

theorem witness_NoResultIsReadableWithoutSuccess_bool : sending.done = false ∧
    { openState with done := true, op := 0x2#4, status := .error .checksum }.status ≠ .ok ∧
    { openState with done := true, op := 0x2#4, status := .error .checksum }.op ≠ 0x1#4 := by decide

theorem witness_EveryStepKeepsTheInvariant : Inv sending ∧ ∃ t, step sending = .next t := ⟨sending_inv, _, rfl⟩

theorem witness_RunsNeverStop : Inv sending := sending_inv

theorem witness_CommandRunsToItsEffect :
    let c := command 0x8#4 0#8 (everyGap 10 frameV39)
    let s := { openState with host := [c] }
    s.cfg.wf = true ∧ s.seq = .idle ∧ s.rst = [] ∧ s.host = c :: [] ∧
      commandEffect s.cfg s.opened c =
        some { opened := true, sent := [0x11#8, 0x03#8, 0x0C#8, 0x02#8, 0x1E#8, 0xC0#8], status := .ok, result := some .unit } := by
  decide

theorem witness_EveryCommandHasAnEffect :
    Config.default.wf = true ∧ { Config.default with idleStart := .atFirstByte }.wf = true := by decide

/-- R209: the one case without an effect, and the same command on a closed handle. -/
theorem test_silent_exchange_has_no_effect :
    let cfg := { Config.default with idleStart := .atFirstByte }
    commandEffect cfg true (command 0x8#4 0#8 []) = none ∧
    (commandEffect cfg false (command 0x8#4 0#8 [])).map Effect.status = some (.error .notOpened) := by decide

/-- The first four commands of program P3. -/
theorem witness_CommandSequenceIsAFold :
    let s := { openState with host :=
      [command 0x7#4 9#8 [], command 0x7#4 100#8 (everyGap 10 frameV66), command 0x6#4 0#8 [],
       command 0x6#4 0#8 (everyGap 10 [0x16#8, 0x02#8, 0x07#8, 0x64#8, 0x7C#8])] }
    s.cfg.wf = true ∧ s.seq = .idle ∧ s.rst = [] ∧
      (commandEffects s.cfg s.opened s.host).map (List.map Effect.status) =
        some [.error .unknown, .ok, .error .insufficientData, .error .checksum] := by decide

theorem witness_ReadStoresTheCapturedBytes :
    let s := { inPhase (.openParticleMeasurement 0#8) .rx [] with line := everyGap 10 frameV39 }
    s.cfg.wf = true ∧ s.seq = .rx ∧ s.rxCnt = 0#9 ∧ s.rst = [] ∧ isDeviceOp s.op = true ∧
      capture s.cfg.idleStart s.line = some frameV39 := by decide

theorem witness_EveryExchangeCompletes : Inv sending ∧ sending.cfg.idleStart = .atCaptureStart ∧ sending.rst = [] ∧
    sending.seq ≠ .idle := ⟨sending_inv, by decide, by decide, by decide⟩

theorem witness_SilentLineHangsWithoutTheTimer :
    let s := { inPhase (.openParticleMeasurement 0#8) .rx [] with cfg := { Config.default with idleStart := .atFirstByte } }
    s.cfg.wf = true ∧ s.cfg.idleStart = .atFirstByte ∧ s.rst = [] ∧ s.seq = .rx ∧ s.rxCnt = 0#9 ∧ s.line = [] ∧
      isDeviceOp s.op = true := by decide

theorem witness_InputPortsAreSampledOnlyInTheirStates_busy :
    let p := { quiet true with cmdValid := true, cmdOp := 0x4#4 }
    let q := { quiet false with openOk := true }
    p.rst = q.rst ∧ p ≠ q ∧ sending.seq ≠ .idle ∧ sending.seq ≠ .rx := by decide

theorem witness_InputPortsAreSampledOnlyInTheirStates_notValid :
    let p := { quiet true with cmdOp := 0x4#4 }
    let q := { quiet true with cmdOp := 0x5#4, openOk := true }
    p.rst = q.rst ∧ p ≠ q ∧ p.cmdValid = false ∧ q.cmdValid = false ∧ openState.seq ≠ .rx := by decide

theorem witness_InputPortsAreSampledOnlyInTheirStates_line :
    let p := { quiet true with cmdValid := true, cmdOp := 0x4#4 }
    let q := { quiet false with cmdValid := true, cmdOp := 0x4#4 }
    p.rst = q.rst ∧ p ≠ q ∧ (p.cmdValid = q.cmdValid ∧ p.cmdOp = q.cmdOp ∧ p.cmdArg = q.cmdArg ∧ p.openOk = q.openOk) ∧
      openState.seq ≠ .rx := by decide

theorem witness_InputPortsAreSampledOnlyInTheirStates_accepts :
    let p := { quiet true with cmdValid := true, cmdOp := 0x4#4 }
    openState.cfg.wf = true ∧ p.rst = false ∧ openState.seq = .idle ∧ p.cmdValid = true := by decide

theorem witness_InputPortsAreSampledOnlyInTheirStates_waits : openState.cfg.wf = true ∧ (quiet true).rst = false ∧
    openState.seq = .idle ∧ (quiet true).cmdValid = false := by decide

theorem witness_EveryClockCycleKeepsTheInvariant : Inv sending := sending_inv

theorem witness_TransmitterSendsTheCharacter :
    let s := { sending with bit := BitState.idle.load 0x02#8 }
    s.cfg.wf = true ∧ s.seq = .tx ∧ 0 < bitDiv s.cfg ∧ s.frame[s.txIdx.toNat]? = some 0x02#8 ∧
      s.bit = BitState.idle.load 0x02#8 ∧ 159 < 10 * bitDiv s.cfg := by decide

theorem witness_ReceiverRecoversTheCharacter :
    let r := { BitState.idle with sync0 := true, sync1 := true, rxPrev := true }
    16 ≤ 16 ∧ r.rxPhase = .waiting ∧ r.sync0 = true ∧ r.sync1 = true ∧ r.rxPrev = true := by decide

/-- A byte is about to complete with the timer at 959, in the last cycle of a bit period (div 15) or before (div 14). -/
def tie (div : Nat) : State :=
  { receiving 10 with
    idleTmr := 959#10
    bit := { BitState.idle with rxPhase := .stop, rxSample := 15, rxShift := 0x0C#8, div := div } }

theorem witness_TimerWinsOverASimultaneousByte_timer : (tie 15).cfg.wf = true ∧ (quiet true).rst = false ∧
    (tie 15).seq = .rx ∧ (tie 15).rxCnt.toNat < 56 ∧ (tie 15).idleTmr.toNat < 960 ∧
    ((tie 15).bit.rxClock (bitDiv (tie 15).cfg) (quiet true).uartRx).2 = some 0x0C#8 ∧
    timerRuns (tie 15) = true ∧ (tie 15).idleTmr = 959#10 ∧ bitDiv (tie 15).cfg ≤ (tie 15).bit.div + 1 := by decide

theorem witness_TimerWinsOverASimultaneousByte_byte : (tie 14).cfg.wf = true ∧ (quiet true).rst = false ∧
    (tie 14).seq = .rx ∧ (tie 14).rxCnt.toNat < 56 ∧ (tie 14).idleTmr.toNat < 960 ∧
    ((tie 14).bit.rxClock (bitDiv (tie 14).cfg) (quiet true).uartRx).2 = some 0x0C#8 ∧
    (tie 14).idleTmr = 959#10 ∧ (tie 14).bit.div + 1 < bitDiv (tie 14).cfg ∧ (tie 14).rxCnt.toNat ≠ 55 := by decide

theorem witness_TimerWinsOverASimultaneousByte_last :
    let s := { receivingLast with bit := (tie 15).bit, idleTmr := 958#10 }
    s.cfg.wf = true ∧ (quiet true).rst = false ∧ s.seq = .rx ∧ s.rxCnt.toNat = 55 ∧ s.idleTmr.toNat < 960 ∧
      (s.bit.rxClock (bitDiv s.cfg) (quiet true).uartRx).2 = some 0x0C#8 ∧ s.idleTmr ≠ 959#10 := by decide

end Sys2Proof.Tests
end

section
/-! PROOF. Everything a byte-level step of an instruction can answer, one case per named update of the state; the frame
rules of the registers (spec/10_state.md R22 to R34) are read off it. -/

namespace Sys2Proof.Machine

open Claims (InFlight)

/-- A request frame of an admissible configuration fits TX_IDX (R97). -/
theorem rom_length {cfg : Config} (hw : cfg.wf = true) {op : Opcode} (hd : isDeviceOp op = true) (v : Byte) :
    4 ≤ (rom cfg op v).length ∧ (rom cfg op v).length ≤ 255 := by
  obtain ⟨hrcal, hscal, hrmeas⟩ := wf_templates cfg hw
  rcases isDeviceOp_cases op hd with rfl | rfl | rfl | rfl | rfl | rfl | rfl
  case inr.inr.inl => exact frameWf_length _ hrcal
  case inr.inr.inr.inl => exact frameWf_length _ (reqScal_frameWf cfg v hscal)
  case inr.inr.inr.inr.inr.inr => exact frameWf_length _ hrmeas
  all_goals simp [rom]

/-- TX_IDX does not wrap while a byte of the frame is still to be sent (R197). -/
theorem txIdx_succ_toNat {s : State} (hw : s.cfg.wf = true) (hd : isDeviceOp s.op = true)
    (hlt : s.txIdx.toNat < s.frame.length) : (s.txIdx + 1#8).toNat = s.txIdx.toNat + 1 := by
  have hlen : s.frame.length ≤ 255 := (rom_length hw hd s.arg).2
  rw [BitVec.toNat_add, BitVec.toNat_one (by decide), Nat.mod_eq_of_lt (by omega)]

/-- The answers of `exec i` in s: the acceptance of i, the phase its exchange is in, or nothing. -/
inductive ExecOutcome (i : Instr) (s : State) : State → Prop where
  /-- OPEN with `open_ok` 1 (R131) -/
  | lineOpened (hs : s.seq = .idle) (hop : i.opcode = 0x1#4) :
      ExecOutcome i s (((s.latch i.opcode i.operand).setOpened true).setResult (.bool true)).complete
  /-- OPEN with `open_ok` 0 (R132) -/
  | openFailed (hs : s.seq = .idle) (hop : i.opcode = 0x1#4) :
      ExecOutcome i s ((((s.latch i.opcode i.operand).setOpened false).setResult (.bool false)).raise .unknown)
  /-- CLOSE (R133) -/
  | lineClosed (hs : s.seq = .idle) (hop : i.opcode = 0x2#4) :
      ExecOutcome i s (((s.latch i.opcode i.operand).setOpened false).setResult (.bool true)).complete
  /-- IS_OPENED (R135) -/
  | handleRead (hs : s.seq = .idle) (hop : i.opcode = 0x3#4) :
      ExecOutcome i s ((s.latch i.opcode i.operand).setResult (.bool s.opened)).complete
  /-- a reserved opcode, or a device command on a closed handle or with an argument out of range (R112, R195) -/
  | rejected (hs : s.seq = .idle) (e : ErrorKind) : ExecOutcome i s ((s.latch i.opcode i.operand).raise e)
  /-- the acceptance starts an exchange (R196) -/
  | started (hs : s.seq = .idle) : ExecOutcome i s (s.latch i.opcode i.operand).startExchange
  /-- nothing changes: i is not the command in flight (R192), or the line is silent with no timer (R209) -/
  | unchanged (hb : s.seq ≠ .idle) : ExecOutcome i s s
  /-- a request byte has been sent (R197) -/
  | sent (b : Byte) (hf : InFlight i s) (hs : s.seq = .tx) (hlt : s.txIdx.toNat < s.frame.length) :
      ExecOutcome i s (s.sentByte b)
  /-- the last request byte has been sent (R198) -/
  | sentLast (b : Byte) (hf : InFlight i s) (hs : s.seq = .tx) (hlt : s.txIdx.toNat < s.frame.length) :
      ExecOutcome i s (s.sentByte b).openWindow
  /-- the timer has expired (R201) -/
  | expired (hf : InFlight i s) (hs : s.seq = .rx) : ExecOutcome i s s.expire
  /-- a byte has been received (R199) -/
  | received (c : RxChar) (rest : List RxChar) (hf : InFlight i s) (hs : s.seq = .rx) :
      ExecOutcome i s (({ s with line := rest } : State).storeByte c.byte)
  /-- the 56th byte has been received (R200) -/
  | receivedLast (c : RxChar) (rest : List RxChar) (hf : InFlight i s) (hs : s.seq = .rx) :
      ExecOutcome i s (({ s with line := rest } : State).storeByte c.byte).closeWindow
  /-- Validate or the decoder reports an error (R204) -/
  | failed (e : ErrorKind) (hf : InFlight i s) (hs : s.seq = .check) : ExecOutcome i s (s.raise e)
  /-- the decoder's result is written (R204) -/
  | decoded (buf : List Byte) (r : Result) (hf : InFlight i s) (hs : s.seq = .check)
      (hr : decoderOf i.opcode buf = some (.ok r)) : ExecOutcome i s (s.setResult r).complete

variable {i : Instr} {s t : State}

/-- The acceptance of a command without an exchange. -/
theorem effectOf_outcome (i : Instr) {s : State} (hs : s.seq = .idle) :
    ExecOutcome i s (effectOf i.opcode (s.latch i.opcode i.operand)) := by
  rcases effectOf_cases i.opcode (s.latch i.opcode i.operand) with
    ⟨hop, he⟩ | ⟨hop, he⟩ | ⟨hop, he⟩ | ⟨-, -, -, he⟩ <;> rw [he]
  · rw [openEffect_eq]
    cases (s.latch i.opcode i.operand).openOk
    · exact .openFailed hs hop
    · exact .lineOpened hs hop
  · exact .lineClosed hs hop
  · exact .handleRead hs hop
  · exact .rejected hs .unknown

/-- The acceptance of a device command. -/
theorem acceptDevice_outcome (i : Instr) {s : State} (argOk : Bool) (hs : s.seq = .idle) :
    ExecOutcome i s (acceptDevice i.opcode i.operand argOk s) := by
  rcases acceptDevice_cases i.opcode i.operand argOk s with ⟨-, he⟩ | ⟨-, -, he⟩ | ⟨-, -, he⟩ <;> rw [he]
  · exact .rejected hs .notOpened
  · exact .rejected hs .unknown
  · exact .started hs

theorem transmit_outcome (hf : InFlight i s) (hs : s.seq = .tx) (h : transmit s = .next t) : ExecOutcome i s t := by
  obtain ⟨b, hb, hcase⟩ := transmit_cases s t h
  obtain ⟨hlt, -⟩ := List.getElem?_eq_some_iff.mp hb
  obtain ⟨-, rfl⟩ | ⟨-, rfl⟩ := hcase
  · exact .sentLast b hf hs hlt
  · exact .sent b hf hs hlt

theorem listenLine_outcome (hf : InFlight i s) (hs : s.seq = .rx) (h : listenLine s = .next t) :
    ExecOutcome i s t := by
  obtain ⟨-, -, rfl⟩ | ⟨-, -, rfl⟩ | ⟨c, rest, -, -, hrec⟩ := listenLine_cases s t h
  · exact .unchanged (by simp [hs])
  · exact .expired hf hs
  · obtain ⟨-, ⟨-, rfl⟩ | ⟨-, rfl⟩⟩ := receive_cases _ _ _ hrec
    · exact .receivedLast c rest hf hs
    · exact .received c rest hf hs

theorem check_outcome (hf : InFlight i s) (hs : s.seq = .check)
    (h : check (minLen s.cfg i.opcode) (decoderOf i.opcode) s = .next t) : ExecOutcome i s t := by
  obtain ⟨buf, -, ⟨e, -, rfl⟩ | ⟨v, r, -, hr, rfl⟩⟩ := check_cases _ _ s t h
  · exact .failed e hf hs
  · cases r with
    | error e => exact .failed e hf hs
    | ok r => exact .decoded buf r hf hs hr

theorem exec_outcome (h : exec i s = .next t) : ExecOutcome i s t := by
  obtain ⟨hs, -, rfl⟩ | ⟨hs, -, rfl⟩ | ⟨hb, rfl⟩ | ⟨hd, ho, ha, hphase⟩ := exec_cases i s t h
  · exact effectOf_outcome i hs
  · exact acceptDevice_outcome i _ hs
  · exact .unchanged hb
  · obtain ⟨hs, h⟩ | ⟨hs, h⟩ | ⟨hs, h⟩ := hphase
    · exact transmit_outcome ⟨hd, ho, ha⟩ hs h
    · exact listenLine_outcome ⟨hd, ho, ha⟩ hs h
    · exact check_outcome ⟨hd, ho, ha⟩ hs h

/-- The kind of result each opcode's command completes with (R222 to R236, R131 to R135). -/
def OwnsResult (op : Opcode) : Result → Prop
  | .unit => op = 0x8#4 ∨ op = 0x9#4
  | .bool _ => op = 0x1#4 ∨ op = 0x2#4 ∨ op = 0x3#4
  | .byte _ => op = 0x6#4 ∨ op = 0x7#4
  | .str _ => op = 0x4#4 ∨ op = 0x5#4
  | .sample _ _ => op = 0xA#4

/-- A decoder's results are of its own opcode's kind. -/
theorem decoderOf_ownsResult {op : Opcode} {buf : List Byte} {r : Result} (h : decoderOf op buf = some (.ok r)) :
    OwnsResult op r := by
  unfold decoderOf at h
  split at h
  · obtain ⟨_, -, hr⟩ := Option.map_eq_some_iff.mp h; cases hr; exact .inl rfl
  · obtain ⟨_, -, hr⟩ := Option.map_eq_some_iff.mp h; cases hr; exact .inr rfl
  · obtain ⟨_, -, hr⟩ := Option.map_eq_some_iff.mp h; cases hr; exact .inl rfl
  · obtain ⟨_, -, hr⟩ := Option.map_eq_some_iff.mp h; cases hr; exact .inr rfl
  · obtain ⟨_, -, hr⟩ := Option.map_eq_some_iff.mp h; split at hr <;> cases hr; exact .inl rfl
  · obtain ⟨_, -, hr⟩ := Option.map_eq_some_iff.mp h; split at hr <;> cases hr; exact .inr rfl
  · unfold decodeMeasurement at h; split at h <;> cases h; rfl
  · cases h

/-- The result registers hold the same in both states (R31 to R34). -/
def SameResults (s t : State) : Prop :=
  t.resBool = s.resBool ∧ t.resByte = s.resByte ∧ t.resStr = s.resStr ∧ t.resLen = s.resLen ∧ t.resCnt = s.resCnt ∧
    t.resAlarm = s.resAlarm

/-- Result registers are written only by a command that completes with a result of its own kind: with success, or as an
OPEN that fails (R36, R68, R132). -/
theorem exec_results (h : exec i s = .next t) :
    SameResults s t ∨
    ∃ r, OwnsResult i.opcode r ∧ SameResults (s.setResult r) t ∧ t.done = true ∧
      (t.status = .ok ∨ i.opcode = 0x1#4) := by
  have hrefl (u : State) : SameResults u u := ⟨rfl, rfl, rfl, rfl, rfl, rfl⟩
  cases exec_outcome h with
  | lineOpened _ hop => exact .inr ⟨.bool true, .inl hop, hrefl _, rfl, .inl rfl⟩
  | openFailed _ hop => exact .inr ⟨.bool false, .inl hop, hrefl _, rfl, .inr hop⟩
  | lineClosed _ hop => exact .inr ⟨.bool true, .inr (.inl hop), hrefl _, rfl, .inl rfl⟩
  | handleRead _ hop => exact .inr ⟨.bool s.opened, .inr (.inr hop), hrefl _, rfl, .inl rfl⟩
  | decoded _ r _ _ hr => exact .inr ⟨r, decoderOf_ownsResult hr, hrefl _, rfl, .inl rfl⟩
  | _ => exact .inl (hrefl _)

/-- No instruction changes the parameters, the coming commands or the levels of the input ports (R10, R24). -/
theorem exec_environment (h : exec i s = .next t) :
    t.cfg = s.cfg ∧ t.host = s.host ∧ t.openOk = s.openOk ∧ t.rst = s.rst := by
  cases exec_outcome h with
  | decoded => simp
  | _ => exact ⟨rfl, rfl, rfl, rfl⟩

/-- An accepted command is latched; it starts an exchange with TX_IDX 0, or has completed (R193, R196, R270). -/
theorem exec_accepts (h : exec i s = .next t) (hs : s.seq = .idle) :
    t.op = i.opcode ∧ t.arg = i.operand ∧
      ((t.seq = .tx ∧ t.txIdx = 0#8) ∨ (t.seq = .idle ∧ t.done = true ∧ t.txIdx = s.txIdx)) := by
  cases exec_outcome h with
  | lineOpened | openFailed | lineClosed | handleRead | rejected => exact ⟨rfl, rfl, .inr ⟨rfl, rfl, rfl⟩⟩
  | started => exact ⟨rfl, rfl, .inl ⟨rfl, rfl⟩⟩
  | unchanged hb => exact absurd hs hb
  | sent _ _ hq | sentLast _ _ hq | expired _ hq | received _ _ _ hq | receivedLast _ _ _ hq | failed _ _ hq
  | decoded _ _ _ hq => rw [hs] at hq; cases hq

/-- While an exchange is in flight its command stays latched and the handle open or closed as it was (R22, R24). -/
theorem exec_keeps_latched (h : exec i s = .next t) (hb : s.seq ≠ .idle) :
    t.op = s.op ∧ t.arg = s.arg ∧ t.opened = s.opened := by
  cases exec_outcome h with
  | lineOpened hs | openFailed hs | lineClosed hs | handleRead hs | rejected hs | started hs => exact absurd hs hb
  | decoded => simp
  | _ => exact ⟨rfl, rfl, rfl⟩

/-- While an exchange is in flight TX_IDX only counts the bytes sent, and never back to 0 (R25, R197). -/
theorem exec_counts_txIdx (h : exec i s = .next t) (hb : s.seq ≠ .idle) :
    t.txIdx = s.txIdx ∨ (s.seq = .tx ∧ t.txIdx = s.txIdx + 1#8 ∧ (s.cfg.wf = true → t.txIdx ≠ 0#8)) := by
  have hne (hf : InFlight i s) (hlt : s.txIdx.toNat < s.frame.length) (hw : s.cfg.wf = true) :
      s.txIdx + 1#8 ≠ 0#8 := by
    obtain ⟨hd, ho, -⟩ := hf
    intro h0
    have hsucc := txIdx_succ_toNat hw (ho ▸ hd) hlt
    simp [h0] at hsucc
  cases exec_outcome h with
  | lineOpened hs | openFailed hs | lineClosed hs | handleRead hs | rejected hs | started hs => exact absurd hs hb
  | sent b hf hs hlt => exact .inr ⟨hs, rfl, hne hf hlt⟩
  | sentLast b hf hs hlt => exact .inr ⟨hs, rfl, hne hf hlt⟩
  | decoded => exact .inl (by simp)
  | _ => exact .inl rfl

/-- Outside S_RX only the opening of the window writes IDLE_TMR (R28, R198). -/
theorem exec_idleTmr (h : exec i s = .next t) (hs : s.seq ≠ .rx) :
    t.idleTmr = s.idleTmr ∨ (s.seq = .tx ∧ t.seq = .rx ∧ t.idleTmr = 0#10) := by
  cases exec_outcome h with
  | sentLast _ _ hq => exact .inr ⟨hq, rfl, rfl⟩
  | expired _ hq | received _ _ _ hq | receivedLast _ _ _ hq => exact absurd hq hs
  | decoded => exact .inl (by simp)
  | _ => exact .inl rfl

end Sys2Proof.Machine

namespace Sys2Proof

open Machine

/-- Settles O40: no outcome but those of OPEN and CLOSE writes OPENED. -/
theorem onlyOpenAndCloseChangeTheHandle : Obligations.OnlyOpenAndCloseChangeTheHandle := by
  intro i s t h hne
  cases exec_outcome h with
  | lineOpened _ hop => exact .inl hop
  | openFailed _ hop => exact .inl hop
  | lineClosed _ hop => exact .inr hop
  | decoded => exact absurd (by simp) hne
  | _ => exact absurd rfl hne

/-- Settles O41: RXBUF is written where a byte is received, at RX_CNT, and nowhere else. -/
theorem onlyTheReceiveStepWritesRxbuf : Obligations.OnlyTheReceiveStepWritesRxbuf := by
  intro i s t a h ha
  cases exec_outcome h with
  | received _ _ _ hs => exact Memory.read_write_other _ _ _ _ (ha hs)
  | receivedLast _ _ _ hs => exact Memory.read_write_other _ _ _ _ (ha hs)
  | decoded => simp
  | _ => rfl

/-- Settles O42: by the one result a completing command writes, case by case of its kind. -/
theorem resultRegistersAreWrittenByTheirOwnCommands : Obligations.ResultRegistersAreWrittenByTheirOwnCommands := by
  intro i s t h
  obtain ⟨hbool, hbyte, hstr, hlen, hcnt, halarm⟩ | ⟨r, hown, hres, hdone, hst⟩ := exec_results h
  · exact ⟨absurd hbool, absurd hbyte, Or.rec (absurd hstr) (absurd hlen), Or.rec (absurd hcnt) (absurd halarm)⟩
  obtain ⟨hbool, hbyte, hstr, hlen, hcnt, halarm⟩ := hres
  have hok (hne : i.opcode ≠ 0x1#4) : t.status = .ok := hst.resolve_right hne
  cases r with
  | unit =>
    exact ⟨absurd hbool, absurd hbyte, Or.rec (absurd hstr) (absurd hlen), Or.rec (absurd hcnt) (absurd halarm)⟩
  | bool b =>
    exact ⟨fun _ => ⟨hdone, hst, hown⟩, absurd hbyte, Or.rec (absurd hstr) (absurd hlen),
      Or.rec (absurd hcnt) (absurd halarm)⟩
  | byte b =>
    have hop : i.opcode = 0x6#4 ∨ i.opcode = 0x7#4 := hown
    exact ⟨absurd hbool, fun _ => ⟨hdone, hok (by rcases hop with h | h <;> simp [h]), hop⟩,
      Or.rec (absurd hstr) (absurd hlen), Or.rec (absurd hcnt) (absurd halarm)⟩
  | str l =>
    have hop : i.opcode = 0x4#4 ∨ i.opcode = 0x5#4 := hown
    exact ⟨absurd hbool, absurd hbyte, fun _ => ⟨hdone, hok (by rcases hop with h | h <;> simp [h]), hop⟩,
      Or.rec (absurd hcnt) (absurd halarm)⟩
  | sample c a =>
    have hop : i.opcode = 0xA#4 := hown
    exact ⟨absurd hbool, absurd hbyte, Or.rec (absurd hstr) (absurd hlen),
      fun _ => ⟨hdone, hok (by simp [hop]), hop⟩⟩

/-- Settles O43: the environment, the busy engine and the acceptance each by their own frame rule. -/
theorem latchedCommandIsKeptToCompletion : Obligations.LatchedCommandIsKeptToCompletion := by
  intro i s t h
  obtain ⟨hcfg, hhost, hok, hrst⟩ := exec_environment h
  refine ⟨hcfg, hhost, hok, hrst, fun hb => ?_, fun hs => ?_⟩
  · obtain ⟨hop, harg, hopened⟩ := exec_keeps_latched h hb
    exact ⟨hop, harg, hopened, exec_counts_txIdx h hb⟩
  · obtain ⟨hop, harg, ⟨htx, hidx⟩ | ⟨hidle, hdone, hidx⟩⟩ := exec_accepts h hs
    · exact ⟨hop, harg, fun _ => ⟨htx, hidx⟩, fun hi => by simp [htx] at hi⟩
    · exact ⟨hop, harg, absurd hidle, fun _ => ⟨hdone, hidx⟩⟩

end Sys2Proof
end

section
/-! PROOF. The invariant: what keeps it, operation by operation, and why no step from it stops (spec/10_state.md R42,
20_memory.md R66, R69). -/

namespace Sys2Proof.Machine

/-- RX_CNT does not wrap while there is room for a byte (R69). -/
theorem rxCnt_succ_toNat {s : State} (hlt : s.rxCnt.toNat < Config.rxThresh) :
    (s.rxCnt + 1#9).toNat = s.rxCnt.toNat + 1 := by
  simp only [Config.rxThresh] at hlt
  rw [BitVec.toNat_add, BitVec.toNat_one (by decide), Nat.mod_eq_of_lt (by omega)]

end Sys2Proof.Machine

namespace Sys2Proof

open Machine

variable {s t : State}

/-- Storing the next byte leaves no gap below RX_CNT (R66). -/
theorem RxbufFilled.storeByte (h : RxbufFilled s) (hlt : s.rxCnt.toNat < Config.rxThresh) (b : Byte) :
    RxbufFilled (s.storeByte b) := by
  intro i hi
  rw [State.storeByte_rxCnt, rxCnt_succ_toNat hlt] at hi
  rw [State.storeByte_rxbuf]
  by_cases he : i = s.rxCnt.toNat
  · rw [he, Memory.read_write_same]; rfl
  · rw [Memory.read_write_other _ _ _ _ he]; exact h i (by omega)

namespace Inv

/-- The invariant speaks of no bit-level register and of no environment field. -/
theorem withEnvironment (h : Inv s) (bit : BitState) (host : List Command) (openOk : Bool) (line : List RxChar)
    (rst : List Bool) : Inv { s with bit := bit, host := host, openOk := openOk, line := line, rst := rst } :=
  { h with }

theorem withBit (h : Inv s) (bit : BitState) : Inv { s with bit := bit } := { h with }

theorem tick (h : Inv s) : Inv s.tick := { h with }

theorem present (h : Inv s) (c : Command) (rest : List Command) : Inv (s.present c rest) := { h with }

/-- Reset clears whatever the invariant bounds (R43, R300). -/
theorem resetRegisters (hw : s.cfg.wf = true) : Inv s.resetRegisters where
  cfgWf := hw
  memWf := rfl
  rxCntLe := by simp
  txIdxLe _ := Nat.zero_le _
  txIdxOfFrame := ⟨0x4#4, 0#8, rfl, Nat.zero_le _⟩
  txIdxLt := nofun
  rxCntLt := nofun
  busyOpen hb := absurd rfl hb
  doneIdle _ := rfl
  idleTmrLe := by simp
  idleTmrLt := nofun
  filled i hi := absurd hi (Nat.not_lt_zero i)

/-- While an exchange is in flight DONE is 0, so R42 (b) holds without a condition. -/
theorem txIdxLe_of_busy (h : Inv s) (hb : s.seq ≠ .idle) : s.txIdx.toNat ≤ s.frame.length :=
  h.txIdxLe fun hd => absurd (h.doneIdle hd) hb

/-- A command that completes at its acceptance and starts no exchange (R195 lines 1 to 6, log 29). -/
theorem ofCompletedAtAcceptance (h : Inv s) (hcfg : t.cfg = s.cfg) (hbuf : t.rxbuf = s.rxbuf) (hcnt : t.rxCnt = s.rxCnt)
    (hidx : t.txIdx = s.txIdx) (htmr : t.idleTmr = s.idleTmr) (hseq : t.seq = .idle) (hdone : t.done = true)
    (hno : ¬(isDeviceOp t.op = true ∧ argInRange t.op t.arg = true ∧ t.status ≠ .error .notOpened)) : Inv t where
  cfgWf := hcfg ▸ h.cfgWf
  memWf := hbuf ▸ h.memWf
  rxCntLe := hcnt ▸ h.rxCntLe
  txIdxLe hd := absurd (hd hdone) hno
  txIdxOfFrame := by rw [hcfg, hidx]; exact h.txIdxOfFrame
  txIdxLt hs := by simp [hseq] at hs
  rxCntLt hs := by simp [hseq] at hs
  busyOpen hb := absurd hseq hb
  doneIdle _ := hseq
  idleTmrLe := htmr ▸ h.idleTmrLe
  idleTmrLt hs := by simp [hseq] at hs
  filled := by unfold RxbufFilled; rw [hcnt, hbuf]; exact h.filled

/-- The commands without an exchange complete at their acceptance (R131 to R135, R112). -/
theorem effectOf (h : Inv s) {op : Opcode} (arg : Byte) (hd : isDeviceOp op = false) :
    Inv (Machine.effectOf op (s.latch op arg)) := by
  have hno : ∀ st : Status, ¬(isDeviceOp op = true ∧ argInRange op arg = true ∧ st ≠ .error .notOpened) :=
    fun st hx => by simp [hd] at hx
  rcases effectOf_cases op (s.latch op arg) with ⟨-, he⟩ | ⟨-, he⟩ | ⟨-, he⟩ | ⟨-, -, -, he⟩ <;> rw [he]
  · rw [openEffect_eq]
    split <;> exact h.ofCompletedAtAcceptance rfl rfl rfl rfl rfl rfl rfl (hno _)
  all_goals exact h.ofCompletedAtAcceptance rfl rfl rfl rfl rfl rfl rfl (hno _)

/-- Acceptance of a device command: a rejection, or the start of an exchange (R194 to R196). -/
theorem acceptDevice (h : Inv s) {op : Opcode} (arg : Byte) (hd : isDeviceOp op = true) :
    Inv (Machine.acceptDevice op arg (argInRange op arg) s) := by
  rcases acceptDevice_cases op arg (argInRange op arg) s with ⟨-, he⟩ | ⟨-, harg, he⟩ | ⟨ho, harg, he⟩ <;> rw [he]
  · exact h.ofCompletedAtAcceptance rfl rfl rfl rfl rfl rfl rfl fun hx => hx.2.2 rfl
  · exact h.ofCompletedAtAcceptance rfl rfl rfl rfl rfl rfl rfl fun hx => by simp [harg] at hx
  · have hpos : 0 < (rom s.cfg op arg).length := Nat.zero_lt_of_lt (rom_length h.cfgWf hd arg).1
    exact { h with
      txIdxLe := fun _ => Nat.zero_le _
      txIdxOfFrame := ⟨op, arg, hd, Nat.zero_le _⟩
      txIdxLt := fun _ => hpos
      rxCntLt := nofun
      busyOpen := fun _ => ⟨ho, hd, harg⟩
      doneIdle := nofun
      idleTmrLt := nofun }

/-- A request byte has been sent and another one is to follow (R197). -/
theorem sentByte (h : Inv s) (hs : s.seq = .tx) (b : Byte) (hnot : s.txIdx.toNat + 1 ≠ s.frame.length) :
    Inv (s.sentByte b) := by
  have hlt := h.txIdxLt hs
  obtain ⟨-, hd, -⟩ := h.busyOpen (by simp [hs])
  have hsucc : (s.sentByte b).txIdx.toNat < s.frame.length := by
    rw [State.sentByte_txIdx, txIdx_succ_toNat h.cfgWf hd hlt]; omega
  exact { h with
    txIdxLe := fun _ => hsucc.le
    txIdxOfFrame := ⟨s.op, s.arg, hd, hsucc.le⟩
    txIdxLt := fun _ => hsucc }

/-- The last request byte has been sent and the capture window opens (R198). -/
theorem openWindow_sentByte (h : Inv s) (hs : s.seq = .tx) (b : Byte) (hlast : s.txIdx.toNat + 1 = s.frame.length) :
    Inv (s.sentByte b).openWindow := by
  have hb : s.seq ≠ .idle := by simp [hs]
  obtain ⟨ho, hd, harg⟩ := h.busyOpen hb
  have hidx : (s.sentByte b).txIdx.toNat ≤ s.frame.length := by
    rw [State.sentByte_txIdx, txIdx_succ_toNat h.cfgWf hd (h.txIdxLt hs)]; omega
  exact { h with
    rxCntLe := by simp
    txIdxLe := fun _ => hidx
    txIdxOfFrame := ⟨s.op, s.arg, hd, hidx⟩
    txIdxLt := nofun
    rxCntLt := fun _ => by simp
    busyOpen := fun _ => ⟨ho, hd, harg⟩
    doneIdle := fun hd => absurd (h.doneIdle hd) hb
    idleTmrLe := by simp
    idleTmrLt := fun _ => by simp
    filled := fun i hi => absurd hi (Nat.not_lt_zero i) }

/-- A byte is stored and there is room for another one (R199). -/
theorem storeByte (h : Inv s) (hs : s.seq = .rx) (b : Byte) (hnot : s.rxCnt.toNat + 1 ≠ Config.rxThresh) :
    Inv (s.storeByte b) := by
  have hlt := h.rxCntLt hs
  have hcnt : (s.storeByte b).rxCnt.toNat < Config.rxThresh := by
    rw [State.storeByte_rxCnt, rxCnt_succ_toNat hlt]; omega
  exact { h with
    memWf := Memory.write_wf _ _ _ h.memWf (Nat.lt_trans hlt (by decide))
    rxCntLe := hcnt.le
    rxCntLt := fun _ => hcnt
    idleTmrLe := by simp
    idleTmrLt := fun _ => by simp
    filled := h.filled.storeByte hlt b }

/-- The 56th byte is stored and the read ends by count (R200). -/
theorem closeWindow_storeByte (h : Inv s) (hs : s.seq = .rx) (b : Byte)
    (hlast : s.rxCnt.toNat + 1 = Config.rxThresh) : Inv (s.storeByte b).closeWindow := by
  have hlt := h.rxCntLt hs
  have hb : s.seq ≠ .idle := by simp [hs]
  have hcnt : (s.storeByte b).rxCnt.toNat ≤ Config.rxThresh := by
    rw [State.storeByte_rxCnt, rxCnt_succ_toNat hlt]; omega
  exact { h with
    memWf := Memory.write_wf _ _ _ h.memWf (Nat.lt_trans hlt (by decide))
    rxCntLe := hcnt
    txIdxLt := nofun
    rxCntLt := nofun
    busyOpen := fun _ => h.busyOpen hb
    doneIdle := fun hd => absurd (h.doneIdle hd) hb
    idleTmrLe := by simp
    idleTmrLt := nofun
    filled := h.filled.storeByte hlt b }

/-- The read ends by inactivity (R201). -/
theorem expire (h : Inv s) (hb : s.seq ≠ .idle) : Inv s.expire :=
  { h with
    txIdxLt := nofun
    rxCntLt := nofun
    busyOpen := fun _ => h.busyOpen hb
    doneIdle := fun hd => absurd (h.doneIdle hd) hb
    idleTmrLe := by simp
    idleTmrLt := nofun }

/-- The timer counts below its end (R155). -/
theorem withIdleTmr (h : Inv s) {n : Nat} (hn : n < Config.tIdle) (bit : BitState) :
    Inv { s with bit := bit, idleTmr := BitVec.ofNat 10 n } := by
  have hlt : (BitVec.ofNat 10 n).toNat < Config.tIdle := Nat.lt_of_le_of_lt (Nat.mod_le n _) hn
  exact { h with idleTmrLe := hlt.le, idleTmrLt := fun _ => hlt }

theorem setResult (h : Inv s) (r : Result) : Inv (s.setResult r) := by
  cases r <;> exact { h with }

/-- An exchange ends with an error (R270). -/
theorem raise (h : Inv s) (hb : s.seq ≠ .idle) (e : ErrorKind) : Inv (s.raise e) :=
  { h with
    txIdxLe := fun _ => h.txIdxLe_of_busy hb
    txIdxLt := nofun
    rxCntLt := nofun
    busyOpen := fun hx => absurd rfl hx
    doneIdle := fun _ => rfl
    idleTmrLt := nofun }

/-- An exchange ends with success (R270). -/
theorem complete (h : Inv s) (hb : s.seq ≠ .idle) : Inv s.complete :=
  { h with
    txIdxLe := fun _ => h.txIdxLe_of_busy hb
    txIdxLt := nofun
    rxCntLt := nofun
    busyOpen := fun hx => absurd rfl hx
    doneIdle := fun _ => rfl
    idleTmrLt := nofun }

theorem finish (h : Inv s) (hb : s.seq ≠ .idle) (r : Except ErrorKind Result) : Inv (finish r s) := by
  cases r with
  | error e => exact h.raise hb e
  | ok v => exact (h.setResult v).complete (by simpa using hb)

/-- The transmit step never runs past the frame (R191, R197), and keeps the invariant. -/
theorem transmit (h : Inv s) (hs : s.seq = .tx) : ∃ t, Machine.transmit s = .next t ∧ Inv t := by
  obtain ⟨b, hb⟩ : ∃ b, s.frame[s.txIdx.toNat]? = some b := ⟨_, List.getElem?_eq_getElem (h.txIdxLt hs)⟩
  by_cases hl : s.txIdx.toNat + 1 = s.frame.length
  · exact ⟨_, by simp only [Machine.transmit, hb, if_pos hl], h.openWindow_sentByte hs b hl⟩
  · exact ⟨_, by simp only [Machine.transmit, hb, if_neg hl], h.sentByte hs b hl⟩

/-- The receive step never runs past RXBUF (R69), and keeps the invariant. -/
theorem receive (h : Inv s) (hs : s.seq = .rx) (b : Byte) : ∃ t, Machine.receive b s = .next t ∧ Inv t := by
  have hcap : ¬Config.bufCap ≤ s.rxCnt.toNat := Nat.not_le.mpr (Nat.lt_trans (h.rxCntLt hs) (by decide))
  by_cases hl : s.rxCnt.toNat + 1 = Config.rxThresh
  · exact ⟨_, by rw [Machine.receive, if_neg hcap, if_pos hl], h.closeWindow_storeByte hs b hl⟩
  · exact ⟨_, by rw [Machine.receive, if_neg hcap, if_neg hl], h.storeByte hs b hl⟩

/-- The step in S_RX: silence, the end of the read, or a byte (R199 to R201, R209). -/
theorem listenLine (h : Inv s) (hs : s.seq = .rx) : ∃ t, Machine.listenLine s = .next t ∧ Inv t := by
  have hb : s.seq ≠ .idle := by simp [hs]
  unfold Machine.listenLine
  split
  · split
    · exact ⟨_, rfl, h.expire hb⟩
    · exact ⟨_, rfl, h⟩
  · next c rest _ =>
    split
    · exact ⟨_, rfl, h.expire hb⟩
    · exact (h.withEnvironment s.bit s.host s.openOk rest s.rst).receive hs c.byte

/-- The check step reads only bytes that were received (R66, R204), and keeps the invariant. -/
theorem check (h : Inv s) (hb : s.seq ≠ .idle) :
    ∃ t, Machine.check (minLen s.cfg s.op) (decoderOf s.op) s = .next t ∧ Inv t := by
  obtain ⟨buf, hbuf⟩ := Memory.readRange_isSome (a := 0) fun i hi => by
    rw [Nat.zero_add]; exact h.filled i hi
  obtain ⟨-, hd, -⟩ := h.busyOpen hb
  simp only [Machine.check, hbuf]
  cases hv : validate buf (minLen s.cfg s.op) with
  | error e => exact ⟨_, rfl, h.raise hb e⟩
  | ok v =>
    obtain ⟨-, -, -, -, -, -, hlen⟩ := validate_ok hv
    obtain ⟨r, hr⟩ := decoderOf_isSome s.cfg h.cfgWf s.op hd buf hlen
    simp only [hr]
    exact ⟨_, rfl, h.finish hb r⟩

/-- Every instruction answers a next state that meets the invariant. -/
theorem exec (h : Inv s) (i : Instr) : ∃ t, Machine.exec i s = .next t ∧ Inv t := by
  by_cases hs : s.seq = .idle
  · refine ⟨_, exec_idle i s hs, ?_⟩
    split
    · next hd => exact h.acceptDevice _ hd
    · next hd => exact h.effectOf _ (by simpa using hd)
  by_cases hf : isDeviceOp i.opcode = true ∧ s.op = i.opcode ∧ s.arg = i.operand
  · obtain ⟨hd, ho, ha⟩ := hf
    cases hq : s.seq with
    | idle => exact absurd hq hs
    | tx => rw [exec_tx i s hq hd ho ha]; exact h.transmit hq
    | rx => rw [exec_rx i s hq hd ho ha]; exact h.listenLine hq
    | check => rw [exec_check i s hq hd ho ha, ← ho]; exact h.check hs
  · exact ⟨s, exec_other i s hs fun hd hx => hf ⟨hd, hx⟩, h⟩

/-- Every step of the byte level answers a next state that meets the invariant. -/
theorem step (h : Inv s) : ∃ t, Machine.step s = .next t ∧ Inv t := by
  cases hr : s.rstNow with
  | true => exact ⟨_, step_reset s h.cfgWf hr, resetRegisters h.cfgWf⟩
  | false =>
    by_cases hs : s.seq = .idle
    · cases hh : s.host with
      | nil => exact ⟨_, step_waits s h.cfgWf hr hs hh, h.tick⟩
      | cons c rest => rw [step_accepts s c rest h.cfgWf hr hs hh]; exact (h.tick.present c rest).exec _
    · rw [step_continues s h.cfgWf hr hs]; exact h.tick.exec _

end Inv

/-- Settles O48: every step answers a next state that meets the invariant, and it answers only one. -/
theorem everyStepKeepsTheInvariant : Obligations.EveryStepKeepsTheInvariant := by
  intro s t h ht
  obtain ⟨u, hu, hInv⟩ := h.step
  rw [hu] at ht; cases ht
  exact hInv

/-- Settles O8: the state right after reset is reset's own result (R43). -/
theorem resetStateMeetsTheInvariant : Obligations.ResetStateMeetsTheInvariant :=
  Inv.resetRegisters (s := State.reset) (by decide)

end Sys2Proof
end

section
/-! PROOF. The clock level: what a clk cycle is in each state of SEQ, the invariant over it (spec/10_state.md R42), the
inactivity timer (R28, 40_transport.md R155) and the sampling of the input ports (R38). -/

namespace Sys2Proof.Machine

variable {s t : State} {p : Pins}

theorem clockStep_reset (hw : s.cfg.wf = true) (hr : p.rst = true) : clockStep p s = .next s.resetRegisters := by
  simp [clockStep, hw, hr]

theorem clockStep_refused (hw : s.cfg.wf = false) : clockStep p s = .refused .badConfiguration := by
  simp [clockStep, hw]

theorem clockStep_waits (hw : s.cfg.wf = true) (hr : p.rst = false) (hs : s.seq = .idle) (hv : p.cmdValid = false) :
    clockStep p s = .next s := by
  simp [clockStep, hw, hr, hs, hv]

theorem clockStep_accepts (hw : s.cfg.wf = true) (hr : p.rst = false) (hs : s.seq = .idle) (hv : p.cmdValid = true) :
    clockStep p s = loadNext (exec (decodeOp p.cmdOp p.cmdArg) { s with openOk := p.openOk }) := by
  simp [clockStep, hw, hr, hs, hv]

theorem clockStep_tx (hw : s.cfg.wf = true) (hr : p.rst = false) (hs : s.seq = .tx) : clockStep p s = clockTx s := by
  simp [clockStep, hw, hr, hs]

theorem clockStep_rx (hw : s.cfg.wf = true) (hr : p.rst = false) (hs : s.seq = .rx) :
    clockStep p s = clockRx p.uartRx s := by
  simp [clockStep, hw, hr, hs]

theorem clockStep_check (hw : s.cfg.wf = true) (hr : p.rst = false) (hs : s.seq = .check) :
    clockStep p s = exec (decodeOp s.op s.arg) s := by
  simp [clockStep, hw, hr, hs]

/-- A configuration the model does not accept gets no clk cycle (R97, R205). -/
theorem wf_of_clockStep_next (h : clockStep p s = .next t) : s.cfg.wf = true := by
  cases hw : s.cfg.wf with
  | true => rfl
  | false => rw [clockStep_refused hw] at h; cases h

/-- Loading a character touches the bit level only (R150, log 21). -/
theorem loadChar_eq (s : State) : ∃ bit, s.loadChar = { s with bit := bit } := by
  unfold State.loadChar
  split
  · split
    · exact ⟨_, rfl⟩
    · exact ⟨s.bit, rfl⟩
  · exact ⟨s.bit, rfl⟩

@[simp] theorem loadChar_seq (s : State) : s.loadChar.seq = s.seq := by
  obtain ⟨bit, h⟩ := loadChar_eq s; rw [h]

@[simp] theorem loadChar_idleTmr (s : State) : s.loadChar.idleTmr = s.idleTmr := by
  obtain ⟨bit, h⟩ := loadChar_eq s; rw [h]

theorem loadNext_next {a : Answer} (h : loadNext a = .next t) : ∃ u, a = .next u ∧ t = u.loadChar := by
  cases a <;> simp only [loadNext] at h <;> cases h
  exact ⟨_, rfl, rfl⟩

/-- A clk cycle in S_TX: a bit period goes on or a character begins, or the byte-level transmit step (R197). -/
theorem clockTx_cases (s : State) :
    (∃ bit, clockTx s = .next { s with bit := bit }) ∨
    (∃ bit, clockTx s = loadNext (transmit { s with bit := bit })) := by
  unfold clockTx
  extract_lets r
  split
  · obtain ⟨bit, h⟩ := loadChar_eq s
    exact .inl ⟨bit, by rw [h]⟩
  · split
    · exact .inr ⟨_, rfl⟩
    · exact .inl ⟨_, rfl⟩

/-- A clk cycle in S_RX: the expiry, the byte-level receive step, or the timer counting below its end (R199 to R201). -/
theorem clockRx_cases (rx : Bool) (s : State) :
    clockRx rx s = .next s.expire ∨
    (∃ b bit, clockRx rx s = receive b { s with bit := bit }) ∨
    (∃ bit n, n < Config.tIdle ∧ clockRx rx s = .next { s with bit := bit, idleTmr := BitVec.ofNat 10 n }) := by
  unfold clockRx
  extract_lets r period timer
  split
  · exact .inl rfl
  · next hlt =>
    split
    · exact .inr (.inl ⟨_, _, rfl⟩)
    · exact .inr (.inr ⟨_, _, Nat.lt_of_not_le hlt, rfl⟩)

/-- The timer in a clk cycle of S_RX in which no byte completes (R155): where the bit period goes on or the timer does not
run, IDLE_TMR keeps its value. -/
theorem clockRx_timer_kept {rx : Bool} (hb : (s.bit.rxClock (bitDiv s.cfg) rx).2 = none) (hlt : s.idleTmr.toNat < 960)
    (h : s.bit.div + 1 < bitDiv s.cfg ∨ timerRuns s = false) :
    clockRx rx s = .next { s with
      bit := { (s.bit.rxClock (bitDiv s.cfg) rx).1 with
        div := if s.bit.div + 1 < bitDiv s.cfg then s.bit.div + 1 else 0 } } := by
  have ht : ¬Config.tIdle ≤ s.idleTmr.toNat := Nat.not_le.mpr hlt
  by_cases hp : s.bit.div + 1 < bitDiv s.cfg
  · simp [clockRx, hb, ht, hp]
  · simp [clockRx, hb, ht, hp, h.resolve_left hp]

/-- The same at the end of a bit period with the timer running: IDLE_TMR goes up by one, and its 960th count ends the read
(R155, R201). -/
theorem clockRx_timer_counts {rx : Bool} (hb : (s.bit.rxClock (bitDiv s.cfg) rx).2 = none)
    (hlt : s.idleTmr.toNat < 960) (hp : ¬s.bit.div + 1 < bitDiv s.cfg) (hr : timerRuns s = true) :
    clockRx rx s = .next
      (if s.idleTmr = 959#10 then s.expire
       else { s with bit := { (s.bit.rxClock (bitDiv s.cfg) rx).1 with div := 0 }, idleTmr := s.idleTmr + 1#10 }) := by
  by_cases he : s.idleTmr = 959#10
  · simp [clockRx, hp, hr, he]
  · have ht : ¬Config.tIdle ≤ s.idleTmr.toNat + 1 := by
      intro hge
      simp only [Config.tIdle] at hge
      exact he (BitVec.eq_of_toNat_eq (by simp; omega))
    have hsucc : BitVec.ofNat 10 (s.idleTmr.toNat + 1) = s.idleTmr + 1#10 := by
      simp [BitVec.ofNat_add]
    simp [clockRx, hb, hp, hr, he, ht, hsucc]

theorem timerRuns_iff (s : State) : timerRuns s = true ↔ s.cfg.idleStart = .atCaptureStart ∨ 0 < s.rxCnt.toNat := by
  simp only [timerRuns, Bool.or_eq_true, beq_iff_eq, decide_eq_true_eq]

theorem transmit_idleTmr (h : transmit s = .next t) :
    t.idleTmr = s.idleTmr ∨ (t.seq = .rx ∧ t.idleTmr = 0#10) := by
  obtain ⟨b, -, ⟨-, rfl⟩ | ⟨-, rfl⟩⟩ := transmit_cases s t h
  · exact .inr ⟨rfl, rfl⟩
  · exact .inl rfl

/-- Outside S_RX only the opening of the window writes IDLE_TMR (R28, R198). -/
theorem clockStep_idleTmr (hr : p.rst = false) (hs : s.seq ≠ .rx) (h : clockStep p s = .next t) :
    t.idleTmr = s.idleTmr ∨ (s.seq = .tx ∧ t.seq = .rx ∧ t.idleTmr = 0#10) := by
  have hw := wf_of_clockStep_next h
  cases hq : s.seq with
  | idle =>
    cases hv : p.cmdValid with
    | false => rw [clockStep_waits hw hr hq hv] at h; cases h; exact .inl rfl
    | true =>
      rw [clockStep_accepts hw hr hq hv] at h
      obtain ⟨u, hu, rfl⟩ := loadNext_next h
      simpa [hq] using exec_idleTmr hu hs
  | tx =>
    rw [clockStep_tx hw hr hq] at h
    obtain ⟨bit, he⟩ | ⟨bit, he⟩ := clockTx_cases s <;> rw [he] at h
    · cases h; exact .inl rfl
    · obtain ⟨u, hu, rfl⟩ := loadNext_next h
      simpa using transmit_idleTmr hu
  | rx => exact absurd hq hs
  | check =>
    rw [clockStep_check hw hr hq] at h
    simpa [hq] using exec_idleTmr h hs

end Sys2Proof.Machine

namespace Sys2Proof

open Machine

namespace Inv

variable {s : State}

theorem loadChar (h : Inv s) : Inv s.loadChar := by
  obtain ⟨bit, hb⟩ := loadChar_eq s
  rw [hb]; exact h.withBit bit

theorem loadNext {a : Answer} (h : ∃ t, a = .next t ∧ Inv t) : ∃ t, Machine.loadNext a = .next t ∧ Inv t := by
  obtain ⟨t, rfl, ht⟩ := h
  exact ⟨_, rfl, ht.loadChar⟩

/-- Every clk cycle answers a next state that meets the invariant. -/
theorem clockStep (h : Inv s) (p : Pins) : ∃ t, Machine.clockStep p s = .next t ∧ Inv t := by
  have hw := h.cfgWf
  cases hr : p.rst with
  | true => exact ⟨_, clockStep_reset hw hr, resetRegisters hw⟩
  | false =>
    cases hs : s.seq with
    | idle =>
      cases hv : p.cmdValid with
      | false => exact ⟨_, clockStep_waits hw hr hs hv, h⟩
      | true =>
        rw [clockStep_accepts hw hr hs hv]
        exact loadNext ((h.withEnvironment s.bit s.host p.openOk s.line s.rst).exec _)
    | tx =>
      rw [clockStep_tx hw hr hs]
      obtain ⟨bit, he⟩ | ⟨bit, he⟩ := clockTx_cases s <;> rw [he]
      · exact ⟨_, rfl, h.withBit bit⟩
      · exact loadNext ((h.withBit bit).transmit hs)
    | rx =>
      rw [clockStep_rx hw hr hs]
      obtain he | ⟨b, bit, he⟩ | ⟨bit, n, hn, he⟩ := clockRx_cases p.uartRx s <;> rw [he]
      · exact ⟨_, rfl, h.expire (by simp [hs])⟩
      · exact (h.withBit bit).receive hs b
      · exact ⟨_, rfl, h.withIdleTmr hn bit⟩
    | check => rw [clockStep_check hw hr hs]; exact h.exec _

end Inv

/-- Settles O57: the cases of a clk cycle are those of the byte level and cycles that change the bit level or the timer. -/
theorem everyClockCycleKeepsTheInvariant : Obligations.EveryClockCycleKeepsTheInvariant :=
  fun p _ h => h.clockStep p

/-- Settles O22: in S_RX by the timer's two lemmas, in every other state because only the opening of the window writes
IDLE_TMR. -/
theorem timerRunsFromTheParametersMoment : Obligations.TimerRunsFromTheParametersMoment := by
  intro s
  refine ⟨timerRuns_iff s, fun p hw hr hs hlt hb => ?_, fun p t hr hs h => clockStep_idleTmr hr hs h⟩
  rw [clockStep_rx hw hr hs]
  by_cases hp : s.bit.div + 1 < bitDiv s.cfg
  · rw [clockRx_timer_kept hb hlt (.inl hp), if_pos hp, if_pos hp]
  rw [if_neg hp]
  cases ht : timerRuns s with
  | false => rw [clockRx_timer_kept hb hlt (.inr ht), if_neg hp, if_pos rfl]
  | true => exact clockRx_timer_counts hb hlt hp ht

/-- Settles O56: each clk cycle reads the ports of its own state of SEQ and no other. -/
theorem inputPortsAreSampledOnlyInTheirStates : Obligations.InputPortsAreSampledOnlyInTheirStates := by
  refine ⟨fun p q s hrst ⟨hcmd, hrx⟩ => ?_, fun p s hw hr hs => ⟨fun hv => ?_, clockStep_waits hw hr hs⟩⟩
  · cases hw : s.cfg.wf with
    | false => rw [clockStep_refused hw, clockStep_refused hw]
    | true =>
    cases hr : p.rst with
    | true => rw [clockStep_reset hw hr, clockStep_reset hw (hrst ▸ hr)]
    | false =>
    have hr' : q.rst = false := hrst ▸ hr
    cases hs : s.seq with
    | idle =>
      rcases hcmd with hb | ⟨hp, hq⟩ | ⟨hv, ho, ha, hok⟩
      · exact absurd hs hb
      · rw [clockStep_waits hw hr hs hp, clockStep_waits hw hr' hs hq]
      · cases hp : p.cmdValid with
        | false => rw [clockStep_waits hw hr hs hp, clockStep_waits hw hr' hs (hv ▸ hp)]
        | true => rw [clockStep_accepts hw hr hs hp, clockStep_accepts hw hr' hs (hv ▸ hp), ho, ha, hok]
    | tx => rw [clockStep_tx hw hr hs, clockStep_tx hw hr' hs]
    | rx => rw [clockStep_rx hw hr hs, clockStep_rx hw hr' hs, hrx.resolve_left (absurd hs)]
    | check => rw [clockStep_check hw hr hs, clockStep_check hw hr' hs]
  · have he := exec_idle (decodeOp p.cmdOp p.cmdArg) { s with openOk := p.openOk } hs
    exact ⟨_, he, by rw [clockStep_accepts hw hr hs hv, he]; rfl⟩

end Sys2Proof
end

section
/-! PROOF. The output ports (spec/10_state.md R38) and the validity of the results they show (R36). -/

namespace Sys2Proof.Machine

variable {s : State}

theorem boolValid_iff : boolValid s = true ↔ s.done = true ∧
    ((s.status = .ok ∧ (s.op = 0x1#4 ∨ s.op = 0x2#4 ∨ s.op = 0x3#4)) ∨
      (s.status = .error .unknown ∧ s.op = 0x1#4)) := by
  simp [boolValid, or_assoc]

theorem byteValid_iff : byteValid s = true ↔ s.done = true ∧ s.status = .ok ∧ (s.op = 0x6#4 ∨ s.op = 0x7#4) := by
  simp [byteValid, and_assoc]

theorem strValid_iff : strValid s = true ↔ s.done = true ∧ s.status = .ok ∧ (s.op = 0x4#4 ∨ s.op = 0x5#4) := by
  simp [strValid, and_assoc]

theorem sampleValid_iff : sampleValid s = true ↔ s.done = true ∧ s.status = .ok ∧ s.op = 0xA#4 := by
  simp [sampleValid, and_assoc]

theorem cmdReady_iff (rst : Bool) : cmdReady rst s = true ↔ s.seq = .idle ∧ rst = false := by
  simp [cmdReady]

theorem busyPort_iff : busyPort s = true ↔ s.seq ≠ .idle := by simp [busyPort]

theorem Seq.code_injective : Function.Injective Seq.code := by
  intro a b; cases a <;> cases b <;> simp [Seq.code]

theorem ErrorKind.code_injective : Function.Injective ErrorKind.code := by
  intro d e; cases d <;> cases e <;> simp [ErrorKind.code]

/-- No error has the code of success (R260). -/
theorem ErrorKind.code_ne_zero (e : ErrorKind) : e.code ≠ 0#4 := by cases e <;> decide

/-- The codes of R260 tell STATUS's values apart. -/
theorem Status.code_injective : Function.Injective Status.code := by
  intro a b h
  cases a with
  | ok => cases b with
    | ok => rfl
    | error e => exact absurd h.symm e.code_ne_zero
  | error d => cases b with
    | ok => exact absurd h d.code_ne_zero
    | error e => rw [ErrorKind.code_injective h]

theorem resBoolPort_eq_some {b : Bool} : resBoolPort s = some b ↔ boolValid s = true ∧ s.resBool = b := by
  simp [resBoolPort]

theorem resBytePort_eq_some {b : Byte} : resBytePort s = some b ↔ byteValid s = true ∧ s.resByte = b := by
  simp [resBytePort]

theorem resLenPort_eq_some {n : BitVec 5} : resLenPort s = some n ↔ strValid s = true ∧ s.resLen = n := by
  simp [resLenPort]

theorem resStrPort_eq_some {k : Nat} {b : Byte} :
    resStrPort s k = some b ↔ strValid s = true ∧ k < s.resLen.toNat ∧ s.resStr[k]? = some b := by
  simp [resStrPort, and_assoc]

theorem resCntPort_eq_some {k : Nat} {n : Half} :
    resCntPort s k = some n ↔ sampleValid s = true ∧ s.resCnt[k]? = some n := by
  simp [resCntPort]

theorem resAlarmPort_eq_some {b : Byte} : resAlarmPort s = some b ↔ sampleValid s = true ∧ s.resAlarm = b := by
  simp [resAlarmPort]

end Sys2Proof.Machine

namespace Sys2Proof

open Machine

/-- Settles O46: every validity of R36 but RES_BOOL's after a failed OPEN asks for DONE and success. -/
theorem noResultIsReadableWithoutSuccess : Obligations.NoResultIsReadableWithoutSuccess := by
  intro s hno
  have hfail : ¬(s.done = true ∧ s.status = .ok) := by
    rintro ⟨hd, hok⟩
    exact hno.elim (fun h => by simp [h] at hd) (absurd hok)
  have hbyte : ¬byteValid s = true := fun h => hfail ⟨(byteValid_iff.mp h).1, (byteValid_iff.mp h).2.1⟩
  have hstr : ¬strValid s = true := fun h => hfail ⟨(strValid_iff.mp h).1, (strValid_iff.mp h).2.1⟩
  have hsample : ¬sampleValid s = true := fun h => hfail ⟨(sampleValid_iff.mp h).1, (sampleValid_iff.mp h).2.1⟩
  refine ⟨if_neg hbyte, if_neg hstr, if_neg hsample, fun k => ⟨?_, if_neg hsample⟩, fun hopen => ?_⟩
  · simp [resStrPort, hstr]
  · have hbool : ¬boolValid s = true := by
      rw [boolValid_iff]
      rintro ⟨hd, ⟨hok, -⟩ | ⟨hst, hop⟩⟩
      · exact hfail ⟨hd, hok⟩
      · simp [hd, hop, hst] at hopen
    refine ⟨if_neg hbool, ?_⟩
    rw [hostResult, if_neg hbool, if_neg hbyte, if_neg hstr, if_neg hsample, if_neg]
    simp only [Bool.and_eq_true, beq_iff_eq]
    exact fun h => hfail h.1

/-- Settles O47: each port by its own equation, the codes because the encodings are injective. -/
theorem outputPortsShowTheRegisters : Obligations.OutputPortsShowTheRegisters := by
  intro s
  have hst (v : Status) : statusPort s = v.code ↔ s.status = v := Status.code_injective.eq_iff
  have hseq (q : Seq) : s.seq.code = q.code ↔ s.seq = q := Seq.code_injective.eq_iff
  refine ⟨⟨cmdReady_iff, busyPort_iff, rfl, rfl⟩,
    ⟨hst .ok, hst (.error .rxHeader), hst (.error .insufficientData), hst (.error .checksum), hst (.error .notOpened),
      hst (.error .measureNotOpened), hst (.error .measureNotClosed), hst (.error .unknown)⟩,
    ⟨hseq .idle, hseq .tx, hseq .rx, hseq .check⟩, ?_, ?_, ?_, ?_, ?_, ?_⟩
  · intro b; rw [resBoolPort_eq_some, boolValid_iff]; tauto
  · intro b; rw [resBytePort_eq_some, byteValid_iff]; tauto
  · intro n; rw [resLenPort_eq_some, strValid_iff]; tauto
  · intro k b; rw [resStrPort_eq_some, strValid_iff]; tauto
  · intro k n; rw [resCntPort_eq_some, sampleValid_iff]; tauto
  · intro b; rw [resAlarmPort_eq_some, sampleValid_iff]; tauto

end Sys2Proof
end

section
/-! PROOF. Memory safety of whole runs, and the request frames of the template ROM (spec/20_memory.md R61, R66, R69). -/

namespace Sys2Proof.Machine

/-- Every entry of the template ROM is a well-formed frame: the fixed ones as they stand, the open ones because an
admissible configuration asks for it (R61, R97). -/
theorem rom_frameWf {cfg : Config} (hw : cfg.wf = true) {op : Opcode} (hd : isDeviceOp op = true) (v : Byte) :
    Config.frameWf (rom cfg op v) = true := by
  obtain ⟨hrcal, hscal, hrmeas⟩ := wf_templates cfg hw
  rcases isDeviceOp_cases op hd with rfl | rfl | rfl | rfl | rfl | rfl | rfl
  · show Config.frameWf Config.reqSerial = true; decide
  · show Config.frameWf Config.reqVersion = true; decide
  · exact hrcal
  · exact reqScal_frameWf cfg v hscal
  · show Config.frameWf Config.reqMopen = true; decide
  · show Config.frameWf Config.reqMclose = true; decide
  · exact hrmeas

end Sys2Proof.Machine

namespace Sys2Proof

open Machine

/-- Every run from a state that meets the invariant answers a next state that meets it too. -/
theorem Inv.run {s : State} (h : Inv s) (k : Nat) : ∃ t, core.run k s = .next t ∧ Inv t := by
  induction k generalizing s with
  | zero => exact ⟨s, rfl, h⟩
  | succ k ih =>
    obtain ⟨u, hstep, hu⟩ := h.step
    rw [run_succ hstep]
    exact ih hu

/-- Settles O49: the invariant holds along the run, and no step from it stops. -/
theorem runsNeverStop : Obligations.RunsNeverStop := by
  intro s k h
  obtain ⟨t, hrun, -⟩ := h.run k
  exact ⟨t, hrun⟩

/-- Settles O37: the rows are the ROM's own entries; the rest is `rom_arg` and `rom_frameWf`. -/
theorem templateRomHoldsTheRequestFrames : Obligations.TemplateRomHoldsTheRequestFrames := by
  intro cfg v w
  exact ⟨rfl, rfl, rfl, rfl, rfl, rfl, rfl, fun op hop => rom_arg cfg op v w hop, fun op hw hd => rom_frameWf hw hd v⟩

end Sys2Proof
end

section
/-! PROOF. The command word and its two-byte form (spec/30_encoding.md R110, R112, R115, log 23). -/

namespace Sys2Proof

/-- The opcode map has one entry for each instruction, and decoding finds it (R110, R112). -/
@[simp] theorem decodeOp_opcode_operand (i : Instr) : decodeOp i.opcode i.operand = i := by
  cases i <;> rfl

@[simp] theorem decodeWord_encode (i : Instr) : decodeWord (encode i) = i := by
  rw [decodeWord, encode, wordOp_append, wordArg_append, decodeOp_opcode_operand]

@[simp] theorem encode_decodeWord (w : CommandWord) : encode (decodeWord w) = w := by
  rw [encode, decodeWord, opcode_decodeOp, operand_decodeOp, word_append_fields]

/-- Settles O2: the opcode map and the fields of the word are each undone by their encoding. -/
theorem decodingAndEncodingAreInverse : Obligations.DecodingAndEncodingAreInverse :=
  ⟨fun i _ => decodeWord_encode i, encode_decodeWord⟩

/-- The high byte of an encoded command has its four upper bits 0 (log 23). -/
theorem toNat_zeroExtend_opcode_lt (op : Opcode) : (op.zeroExtend 8).toNat < 16 := by
  have := op.isLt
  simp; omega

theorem extractLsb'_zeroExtend_opcode (op : Opcode) : (op.zeroExtend 8).extractLsb' 0 4 = op := by
  revert op; decide

/-- A high byte with its four upper bits 0 is the opcode below them (log 23). -/
theorem zeroExtend_extractLsb'_of_lt {hi : Byte} (h : hi.toNat < 16) : (hi.extractLsb' 0 4).zeroExtend 8 = hi := by
  apply BitVec.eq_of_toNat_eq
  simp; omega

/-- What the byte decoder accepts: two bytes, the second one an opcode (R110, log 23). -/
theorem decodeBytes_eq_ok {bs : List Byte} {i : Instr} :
    decodeBytes bs = .ok i ↔ ∃ lo hi, bs = [lo, hi] ∧ hi.toNat < 16 ∧ decodeOp (hi.extractLsb' 0 4) lo = i := by
  constructor
  · intro h
    unfold decodeBytes at h
    split at h
    · next lo hi =>
      split at h
      · next hlt => cases h; exact ⟨lo, hi, rfl, hlt, rfl⟩
      · cases h
    · cases h
  · rintro ⟨lo, hi, rfl, hlt, rfl⟩
    exact if_pos hlt

@[simp] theorem decodeBytes_encodeBytes (i : Instr) : decodeBytes (encodeBytes i) = .ok i :=
  decodeBytes_eq_ok.mpr ⟨_, _, rfl, toNat_zeroExtend_opcode_lt _, by
    rw [extractLsb'_zeroExtend_opcode, decodeOp_opcode_operand]⟩

/-- Settles O3: an accepted pair of bytes is its command's own two-byte form, since the high byte is below 16. -/
theorem byteDecoderAcceptsExactlyTheEncodings : Obligations.ByteDecoderAcceptsExactlyTheEncodings := by
  intro bs i
  constructor
  · intro h
    obtain ⟨lo, hi, rfl, hlt, rfl⟩ := decodeBytes_eq_ok.mp h
    rw [encodeBytes, operand_decodeOp, opcode_decodeOp, zeroExtend_extractLsb'_of_lt hlt]
  · rintro rfl
    exact decodeBytes_encodeBytes i

/-- Settles O1: by evaluating the decoder on each word. -/
theorem wordsOfTheOpcodeMapDecode : Obligations.WordsOfTheOpcodeMapDecode :=
  ⟨rfl, rfl, rfl, rfl, rfl, rfl, rfl, rfl, rfl, rfl, rfl, rfl, rfl⟩

end Sys2Proof
end

section
/-! PROOF. What is refused (spec/30_encoding.md R97, 42_sequencer.md R205), and the reserved opcodes (R112). -/

namespace Sys2Proof.Machine

theorem step_refused {s : State} (hw : s.cfg.wf = false) : step s = .refused .badConfiguration := if_pos hw

/-- In S_IDLE a command with a reserved opcode's effect is rejected with Unknown (R195 line 1). -/
theorem exec_reserved {i : Instr} {s : State} (hs : s.seq = .idle) (hd : isDeviceOp i.opcode = false)
    (he : effectOf i.opcode = reservedEffect) : exec i s = .next ((s.latch i.opcode i.operand).raise .unknown) := by
  rw [exec_idle i s hs, hd, he]; rfl

end Sys2Proof.Machine

namespace Sys2Proof

open Machine

/-- Settles O6: both step functions look at the configuration first. -/
theorem badConfigurationIsRefused : Obligations.BadConfigurationIsRefused :=
  fun _ _ hw => ⟨step_refused hw, clockStep_refused hw⟩

/-- Settles O12: the effect of each at acceptance is `raise Unknown`, which leaves SEQ at S_IDLE. -/
theorem reservedOpcodesReportUnknown : Obligations.ReservedOpcodesReportUnknown := by
  intro a s hs i hi
  have hraise : (s.latch i.opcode a).raise .unknown =
      { s with op := i.opcode, arg := a, done := true, status := .error .unknown } := by
    rw [hs]; rfl
  rw [← hraise]
  simp only [Claims.reservedInstrs, List.mem_cons, List.not_mem_nil, or_false] at hi
  rcases hi with rfl | rfl | rfl | rfl | rfl | rfl <;>
    exact exec_reserved hs rfl rfl

end Sys2Proof
end

section
/-! PROOF. The argument of a command: who reads ARG (spec/30_encoding.md R111) and where v stands in the frame of
SETUP_CALIB_COEFF (R96, 41_framecodec.md R176). -/

namespace Sys2Proof.Machine

open Claims (withArg mapNext)

variable {s : State}

/-- The request frame of every other command is the same for every argument (R111). -/
theorem frame_withArg (h : s.op ≠ 0x7#4) (b : Byte) : (withArg s b).frame = s.frame := rom_arg _ _ _ _ h

theorem transmit_withArg (h : s.op ≠ 0x7#4) (b : Byte) :
    transmit (withArg s b) = mapNext (withArg · b) (transmit s) := by
  have htx : (withArg s b).txIdx = s.txIdx := rfl
  unfold transmit
  rw [frame_withArg h, htx]
  split
  · rfl
  · split <;> rfl

theorem receive_withArg (s : State) (c b : Byte) :
    receive c (withArg s b) = mapNext (withArg · b) (receive c s) := by
  have hcnt : (withArg s b).rxCnt = s.rxCnt := rfl
  unfold receive
  rw [hcnt]
  split
  · rfl
  · split <;> rfl

theorem listenLine_withArg (s : State) (b : Byte) :
    listenLine (withArg s b) = mapNext (withArg · b) (listenLine s) := by
  have hline : (withArg s b).line = s.line := rfl
  have hruns : timerRuns (withArg s b) = timerRuns s := rfl
  unfold listenLine
  rw [hline, hruns]
  split
  · split <;> rfl
  · next c rest _ =>
    split
    · rfl
    · exact receive_withArg { s with line := rest } c.byte b

theorem finish_withArg (r : Except ErrorKind Result) (s : State) (b : Byte) :
    finish r (withArg s b) = withArg (finish r s) b := by
  cases r with
  | error e => rfl
  | ok v => cases v <;> rfl

theorem check_withArg (n : Nat) (d : Decoder) (s : State) (b : Byte) :
    check n d (withArg s b) = mapNext (withArg · b) (check n d s) := by
  have hbuf : (withArg s b).rxbuf = s.rxbuf := rfl
  have hcnt : (withArg s b).rxCnt = s.rxCnt := rfl
  unfold check
  rw [hbuf, hcnt]
  split
  · rfl
  · split
    · rfl
    · split
      · rfl
      · exact congrArg _ (finish_withArg _ s b)

/-- The latched command in S_TX (R197). -/
theorem exec_latched_tx (hs : s.seq = .tx) (hd : isDeviceOp s.op = true) :
    exec (decodeOp s.op s.arg) s = transmit s :=
  exec_tx _ s hs (by rwa [opcode_decodeOp]) (opcode_decodeOp _ _).symm (operand_decodeOp _ _).symm

/-- The latched command in S_RX (R199). -/
theorem exec_latched_rx (hs : s.seq = .rx) (hd : isDeviceOp s.op = true) :
    exec (decodeOp s.op s.arg) s = listenLine s :=
  exec_rx _ s hs (by rwa [opcode_decodeOp]) (opcode_decodeOp _ _).symm (operand_decodeOp _ _).symm

/-- The latched command in S_CHECK (R204). -/
theorem exec_latched_check (hs : s.seq = .check) (hd : isDeviceOp s.op = true) :
    exec (decodeOp s.op s.arg) s = check (minLen s.cfg s.op) (decoderOf s.op) s := by
  rw [exec_check _ s hs (by rwa [opcode_decodeOp]) (opcode_decodeOp _ _).symm (operand_decodeOp _ _).symm,
    opcode_decodeOp]

/-- A busy engine with no device opcode latched does nothing (R192). -/
theorem exec_latched_none (hb : s.seq ≠ .idle) (hd : ¬isDeviceOp s.op = true) :
    exec (decodeOp s.op s.arg) s = .next s :=
  exec_other _ s hb fun hx => absurd hx (by rwa [opcode_decodeOp])

/-- Where ARG is not the operand of SETUP_CALIB_COEFF, the exchange in flight is the same for every ARG (R111). -/
theorem exec_withArg (hb : s.seq ≠ .idle) (h : s.op ≠ 0x7#4) (b : Byte) :
    exec (decodeOp (withArg s b).op (withArg s b).arg) (withArg s b) =
      mapNext (withArg · b) (exec (decodeOp s.op s.arg) s) := by
  by_cases hd : isDeviceOp s.op = true
  · cases hs : s.seq with
    | idle => exact absurd hs hb
    | tx => rw [exec_latched_tx hs hd, exec_latched_tx (s := withArg s b) hs hd, transmit_withArg h]
    | rx => rw [exec_latched_rx hs hd, exec_latched_rx (s := withArg s b) hs hd, listenLine_withArg]
    | check =>
      rw [exec_latched_check hs hd, exec_latched_check (s := withArg s b) hs hd]
      exact check_withArg _ _ s b
  · rw [exec_latched_none hb hd, exec_latched_none (s := withArg s b) hb hd]
    rfl

/-- The byte at an index adds to the sum of the others (R160). -/
theorem byteSum_set_eq_add (l : List Byte) {k : Nat} (hk : k < l.length) (v : Byte) :
    byteSum (l.set k v) = byteSum (l.set k 0#8) + v.toNat := by
  have hv := byteSum_set l k v hk
  have h0 := byteSum_set l k 0#8 hk
  simp only [BitVec.toNat_ofNat, Nat.zero_mod] at h0
  omega

/-- A byte's value goes into the checksum by its negation (R160). -/
theorem checksum_set_eq_sub (l : List Byte) {k : Nat} (hk : k < l.length) (v : Byte) :
    checksum (l.set k v) = checksum (l.set k 0#8) - v := by
  have hv := v.isLt
  apply BitVec.eq_of_toNat_eq
  rw [BitVec.toNat_sub, checksum_toNat, checksum_toNat, byteSum_set_eq_add l hk]
  omega

@[simp] theorem reqScal_length (cfg : Config) (v : Byte) : (reqScal cfg v).length = cfg.scalBody.length + 1 := by
  simp [reqScal, withChecksum]

theorem reqScal_getLast? (cfg : Config) (v : Byte) :
    (reqScal cfg v).getLast? = some (checksum (cfg.scalBody.set cfg.scalPos v)) :=
  List.getLast?_concat

/-- Before its checksum the frame is the template with v in its place (R176). -/
theorem reqScal_getElem? (cfg : Config) (v : Byte) {k : Nat} (hk : k < cfg.scalBody.length) :
    (reqScal cfg v)[k]? = (cfg.scalBody.set cfg.scalPos v)[k]? :=
  List.getElem?_append_left (by simpa using hk)

/-- The place of v is in an admissible template (R96). -/
theorem scalPos_lt {cfg : Config} (hw : cfg.wf = true) : cfg.scalPos < cfg.scalBody.length := by
  obtain ⟨-, hscal, -⟩ := wf_templates cfg hw
  simp only [Config.scalWf, Bool.and_eq_true, decide_eq_true_eq] at hscal
  exact hscal.2

end Sys2Proof.Machine

namespace Sys2Proof

open Machine

/-- Settles O17: of the phases of an exchange only the transmit step could read ARG, and its frame has
no use for it. -/
theorem argumentMattersOnlyToCalibrationSetup : Obligations.ArgumentMattersOnlyToCalibrationSetup := by
  intro s b hb hr h
  cases hw : s.cfg.wf with
  | false => rw [step_refused hw, step_refused (s := Claims.withArg s b) hw]; rfl
  | true =>
    rw [step_continues s hw hr hb, step_continues (Claims.withArg s b) hw hr hb]
    exact exec_withArg (s := s.tick) hb h b

/-- Settles O39: v stands at `scalPos`, the checksum is the last byte, and no other byte is touched. -/
theorem calibrationFrameCarriesItsArgument : Obligations.CalibrationFrameCarriesItsArgument := by
  intro cfg v hw
  have hpos := scalPos_lt hw
  refine ⟨by simp, ?_, ?_, fun k hk hlast => ?_⟩
  · rw [reqScal_getElem? cfg v hpos, List.getElem?_set_self hpos]
  · rw [reqScal_getLast?, reqScal_getLast?, checksum_set_eq_sub _ hpos]; rfl
  · rw [reqScal_length] at hlast
    rcases Nat.lt_or_ge k cfg.scalBody.length with hlt | hge
    · rw [reqScal_getElem? cfg v hlt, reqScal_getElem? cfg 0#8 hlt, List.getElem?_set_ne hk.symm,
        List.getElem?_set_ne hk.symm]
    · rw [List.getElem?_eq_none (by rw [reqScal_length]; omega), List.getElem?_eq_none (by rw [reqScal_length]; omega)]

end Sys2Proof
end

section
/-! PROOF. The transmitter at the clock level (spec/40_transport.md R150 to R152, 42_sequencer.md R197): the hidden
registers after each clk cycle of a character. -/

namespace Sys2Proof.Machine

/-- Clk cycles one after the other. -/
theorem clockRun_append {ps : List Pins} {s t : State} (h : clockRun ps s = .next t) (qs : List Pins) :
    clockRun (ps ++ qs) s = clockRun qs t := by
  induction ps generalizing s with
  | nil => cases h; rfl
  | cons p ps ih =>
    cases hp : clockStep p s with
    | next u => simp only [List.cons_append, clockRun, hp] at h ⊢; exact ih h
    | fault r => simp [clockRun, hp] at h
    | refused r => simp [clockRun, hp] at h

@[simp] theorem clockRun_singleton (p : Pins) (s : State) : clockRun [p] s = clockStep p s := by
  rw [clockRun]; cases clockStep p s <;> rfl

/-- The bits of the transmit shift register: start bit 0, the byte, stop bit 1 (R150). -/
theorem charBits_getLsbD (b : Byte) (j : Nat) :
    (charBits b).getLsbD j =
      if j < 1 then (0#1).getLsbD j else if j - 1 < 8 then b.getLsbD (j - 1) else (1#1).getLsbD (j - 1 - 8) :=
  (BitVec.getLsbD_append ..).trans (by rw [BitVec.getLsbD_append])

/-- The levels of a character are the bits of the shift register from bit 0 up (R151). -/
theorem charLevels_getElem? (b : Byte) {j : Nat} (hj : j < 10) :
    (charLevels b)[j]? = some ((charBits b).getLsbD j) := by
  rw [charBits_getLsbD]
  interval_cases j <;> rfl

/-- The transmit shift register once j bits of the character have left it: ones follow (R39, R150). -/
def charBitsAfter (b : Byte) : Nat → BitVec 10
  | 0 => charBits b
  | j + 1 => (charBitsAfter b j >>> 1) ||| 0x200#10

/-- Bit 9 of the shift register is filled with 1, every other bit moves down. -/
theorem getLsbD_ushiftRight_or (x : BitVec 10) {i : Nat} (hi : i < 10) :
    ((x >>> 1) ||| 0x200#10).getLsbD i = (x.getLsbD (i + 1) || i == 9) := by
  have hmask : (0x200#10).getLsbD i = (i == 9) := by interval_cases i <;> rfl
  rw [BitVec.getLsbD_or, BitVec.getLsbD_ushiftRight, hmask, Nat.add_comm]

theorem charBitsAfter_getLsbD (b : Byte) (j : Nat) {i : Nat} (hi : i < 10) :
    (charBitsAfter b j).getLsbD i = ((charBits b).getLsbD (i + j) || decide (10 ≤ i + j)) := by
  induction j generalizing i with
  | zero => simp [charBitsAfter, Nat.not_le.mpr hi]
  | succ j ih =>
    rw [charBitsAfter, getLsbD_ushiftRight_or _ hi]
    rcases Nat.lt_or_ge (i + 1) 10 with hlt | hge
    · rw [ih hlt, show i + 1 + j = i + (j + 1) by omega]
      simp [show i ≠ 9 by omega]
    · obtain rfl : i = 9 := by omega
      simp [show 10 ≤ 9 + (j + 1) by omega]

/-- uart_tx during the j-th level of a character (R150, R151). -/
theorem charBitsAfter_level (b : Byte) {j : Nat} (hj : j < 10) :
    (charLevels b)[j]? = some ((charBitsAfter b j).getLsbD 0) := by
  rw [charLevels_getElem? b hj, charBitsAfter_getLsbD b j (by decide)]
  simp [Nat.not_le.mpr hj]

/-- Once the stop bit has left, the shift register has its idle value (R39). -/
theorem charBitsAfter_ten (b : Byte) : charBitsAfter b 10 = 0x3FF#10 := by
  ext i hi
  rw [← BitVec.getLsbD_eq_getElem, charBitsAfter_getLsbD b 10 hi]
  interval_cases i <;> simp

/-- The hidden registers k clk cycles after a character has been loaded: k / DIV levels are over, and the divider is k % DIV
cycles into the next one. -/
def txAfter (b : Byte) (div k : Nat) : BitState :=
  { BitState.idle with div := k % div, txShift := charBitsAfter b (k / div), txBits := 10 - k / div }

theorem txAfter_zero (b : Byte) (div : Nat) : txAfter b div 0 = BitState.idle.load b := by
  simp [txAfter, BitState.load, charBitsAfter]

theorem txAfter_end (b : Byte) {div : Nat} (hdiv : 0 < div) : txAfter b div (10 * div) = BitState.idle := by
  simp [txAfter, Nat.mul_div_cancel _ hdiv, charBitsAfter_ten, BitState.idle]

/-- A clk cycle of the transmitter: the divider counts DIV cycles, then the register shifts; the tenth shift ends the
character (R152). -/
theorem txAfter_txClock (b : Byte) {div : Nat} (hdiv : 0 < div) (k : Nat) :
    (txAfter b div k).txClock div = (txAfter b div (k + 1), decide (k + 1 = 10 * div)) := by
  have hdm : div * (k / div) + k % div = k := Nat.div_add_mod k div
  have hmod : k % div < div := Nat.mod_lt k hdiv
  rcases Nat.lt_or_ge (k % div + 1) div with hlt | hge
  · obtain ⟨hq, hm⟩ : (k + 1) / div = k / div ∧ (k + 1) % div = k % div + 1 :=
      (Nat.div_mod_unique hdiv).mpr ⟨by omega, hlt⟩
    have hend : k + 1 ≠ 10 * div := fun he => by simp [he] at hm
    simp [txAfter, BitState.txClock, hq, hm, hlt, hend]
  · obtain ⟨hq, hm⟩ : (k + 1) / div = k / div + 1 ∧ (k + 1) % div = 0 :=
      (Nat.div_mod_unique hdiv).mpr ⟨by rw [Nat.mul_succ]; omega, hdiv⟩
    have hend : (10 - k / div == 1) = decide (k + 1 = 10 * div) := by
      rw [Bool.beq_eq_decide_eq, decide_eq_decide]
      constructor
      · intro h
        have h9 : k / div = 9 := by omega
        rw [h9] at hdm
        omega
      · intro he
        rw [he, Nat.mul_div_cancel _ hdiv] at hq
        omega
    simp [txAfter, BitState.txClock, hq, hm, Nat.not_lt.mpr hge, Nat.sub_add_eq, hend, charBitsAfter]

/-- A clk cycle in S_TX within a character (R152). -/
theorem clockStep_sending {s : State} {p : Pins} (hw : s.cfg.wf = true) (hr : p.rst = false) (hs : s.seq = .tx)
    (b : Byte) {k : Nat} (hk : k < 10 * bitDiv s.cfg) :
    clockStep p { s with bit := txAfter b (bitDiv s.cfg) k } =
      if k + 1 = 10 * bitDiv s.cfg then loadNext (transmit { s with bit := BitState.idle })
      else .next { s with bit := txAfter b (bitDiv s.cfg) (k + 1) } := by
  have hdiv : 0 < bitDiv s.cfg := by omega
  have hj : k / bitDiv s.cfg < 10 := Nat.div_lt_of_lt_mul (by omega)
  have hbits : (txAfter b (bitDiv s.cfg) k).txBits ≠ 0 := Nat.sub_ne_zero_of_lt hj
  have htx := clockStep_tx (s := { s with bit := txAfter b (bitDiv s.cfg) k }) hw hr hs
  rw [htx, clockTx, if_neg hbits, txAfter_txClock b hdiv k]
  by_cases he : k + 1 = 10 * bitDiv s.cfg
  · simp [he, txAfter_end b hdiv]
  · simp [he]

/-- The state k clk cycles after a character has been loaded. -/
theorem clockRun_sending {s : State} {p : Pins} (hw : s.cfg.wf = true) (hr : p.rst = false) (hs : s.seq = .tx)
    {b : Byte} (hb : s.bit = BitState.idle.load b) {k : Nat} (hk : k < 10 * bitDiv s.cfg) :
    clockRun (List.replicate k p) s = .next { s with bit := txAfter b (bitDiv s.cfg) k } := by
  induction k with
  | zero => rw [txAfter_zero, ← hb]; rfl
  | succ k ih =>
    rw [List.replicate_succ', clockRun_append (ih (by omega)), clockRun_singleton,
      clockStep_sending hw hr hs b (by omega), if_neg (by omega)]

end Sys2Proof.Machine

namespace Sys2Proof

open Machine

/-- Settles O58: the hidden registers after each clk cycle of the character; the last cycle makes the transmit step. -/
theorem transmitterSendsTheCharacter : Obligations.TransmitterSendsTheCharacter := by
  intro s b hw hs hdiv _ hb
  refine ⟨fun k hk => ⟨_, clockRun_sending hw rfl hs hb hk, ?_⟩, ?_⟩
  · exact charBitsAfter_level b (Nat.div_lt_of_lt_mul (by omega))
  · obtain ⟨k, hk⟩ : ∃ k, 10 * bitDiv s.cfg = k + 1 := ⟨10 * bitDiv s.cfg - 1, by omega⟩
    rw [hk, List.replicate_succ', clockRun_append (clockRun_sending hw rfl hs hb (by omega)), clockRun_singleton,
      clockStep_sending hw rfl hs b (by omega), if_pos hk.symm]

end Sys2Proof
end

section
/-! PROOF. The receiver over a character's waveform, one level of the line after the other (spec/40_transport.md R151,
R153). -/

namespace Sys2Proof.Machine

open Claims (receiverRun)

/-- How many clk cycles a phase of the receiver counts before it acts (R153, log 32). -/
def RxPhase.cycles (div : Nat) : RxPhase → Nat
  | .waiting => 0
  | .start => div / 2
  | .data | .stop => div

namespace BitState

/-- The synchroniser and the edge register hold one level (R153). -/
def settled (r : BitState) (x : Bool) : BitState := { r with sync0 := x, sync1 := x, rxPrev := x }

/-- The sample counter has gone on by n clk cycles (R153). -/
def advance (r : BitState) (n : Nat) : BitState := { r with rxSample := r.rxSample + n }

@[simp] theorem settled_rxPhase (r : BitState) (x : Bool) : (r.settled x).rxPhase = r.rxPhase := rfl
@[simp] theorem settled_rxSample (r : BitState) (x : Bool) : (r.settled x).rxSample = r.rxSample := rfl
@[simp] theorem sample_rxPhase (r : BitState) (x : Bool) : (r.sample x).rxPhase = r.rxPhase := rfl
@[simp] theorem sample_rxSample (r : BitState) (x : Bool) : (r.sample x).rxSample = r.rxSample := rfl
@[simp] theorem advance_rxPhase (r : BitState) (n : Nat) : (r.advance n).rxPhase = r.rxPhase := rfl
@[simp] theorem advance_rxSample (r : BitState) (n : Nat) : (r.advance n).rxSample = r.rxSample + n := rfl

theorem advance_add (r : BitState) (m n : Nat) : r.advance (m + n) = (r.advance m).advance n := by
  simp [advance, Nat.add_assoc]

/-- One data bit enters the receive shift register from above (R151, R153). -/
def shiftIn (shift : Byte) (x : Bool) : Byte := (shift >>> 1) ||| (if x then 0x80#8 else 0#8)

/-- The receiver with k data bits taken, in the clk cycle after it has acted on a sample (R153). -/
def withBits (r : BitState) (k : Nat) (shift : Byte) : BitState :=
  { r with rxPhase := if k = 8 then .stop else .data, rxBits := k, rxShift := shift, rxSample := 0 }

/-- The receiver in the clk cycle in which a new level begins on the line, k data bits after the start bit: the synchroniser
holds the level x before, and two clk cycles behind the line it has div / 2 + 2 cycles to go before it acts. -/
def atLevel (r : BitState) (div k : Nat) (shift : Byte) (x : Bool) : BitState :=
  ((r.withBits k shift).advance (div - div / 2 - 3)).settled x

@[simp] theorem withBits_rxSample (r : BitState) (k : Nat) (shift : Byte) : (r.withBits k shift).rxSample = 0 := rfl

@[simp] theorem withBits_cycles (r : BitState) (div k : Nat) (shift : Byte) :
    (r.withBits k shift).rxPhase.cycles div = div := by
  by_cases hk : k = 8 <;> simp [withBits, RxPhase.cycles, hk]

/-- Behind the synchroniser the receiver has half a bit period to go. -/
theorem settled_advance_atLevel (r : BitState) {div : Nat} (hdiv : 5 ≤ div) (k : Nat) (shift : Byte) (x y : Bool) :
    ((r.atLevel div k shift y).advance 3).settled x = ((r.withBits k shift).advance (div - div / 2)).settled x := by
  have hn : div - div / 2 = div - div / 2 - 3 + 3 := by omega
  rw [hn, advance_add]; rfl

/-- Before a phase has counted its cycles only the synchroniser and the sample counter move (R153). -/
theorem rxClock_counts {r : BitState} {div : Nat} (h : r.rxSample + 1 < r.rxPhase.cycles div) (x : Bool) :
    r.rxClock div x = ((r.sample x).advance 1, none) := by
  cases hph : r.rxPhase <;> simp only [hph, RxPhase.cycles] at h
  · exact absurd h (Nat.not_lt_zero _)
  all_goals simp [rxClock, advance, hph, h]

theorem shiftIn_getElem (shift : Byte) (x : Bool) {i : Nat} (hi : i < 8) :
    (shiftIn shift x)[i] = if h : i = 7 then x else shift[i + 1] := by
  have hmask : (if x then 0x80#8 else 0#8).getLsbD i = (x && decide (i = 7)) := by
    cases x
    · simp
    · interval_cases i <;> rfl
  rw [← BitVec.getLsbD_eq_getElem, shiftIn, BitVec.getLsbD_or, BitVec.getLsbD_ushiftRight, hmask, Nat.add_comm 1]
  split
  · next h => simp [h]
  · next h => simp [h, BitVec.getLsbD_eq_getElem (show i + 1 < 8 by omega)]

/-- Eight data bits, bit 0 first, are the byte (R151). -/
theorem foldl_shiftIn (shift b : Byte) : ((List.range 8).map b.getLsbD).foldl shiftIn shift = b := by
  ext i hi
  interval_cases i <;> simp [List.range, List.range.loop, shiftIn_getElem]

/-- Half a bit period after the edge the start bit is checked (R153). -/
theorem rxClock_startBit {r : BitState} {div : Nat} (hph : r.rxPhase = .start) (hn : div / 2 ≤ r.rxSample + 1) :
    (r.settled false).rxClock div false = ((r.withBits 0 r.rxShift).settled false, none) := by
  simp [rxClock, settled, sample, withBits, hph, Nat.not_lt.mpr hn]

/-- A bit period after the last sample the next data bit is taken (R153). -/
theorem rxClock_dataBit {r : BitState} {div k : Nat} (hk : k < 8) (shift : Byte) (x : Bool) {n : Nat} (hn : div ≤ n + 1) :
    (((r.withBits k shift).advance n).settled x).rxClock div x =
      ((r.withBits (k + 1) (shiftIn shift x)).settled x, none) := by
  simp [rxClock, settled, sample, advance, withBits, shiftIn, Nat.ne_of_lt hk, Nat.not_lt.mpr hn]

/-- At the stop bit position the byte is answered (R153, R154). -/
theorem rxClock_stopBit {r : BitState} {div : Nat} (shift : Byte) (x : Bool) {n : Nat} (hn : div ≤ n + 1) :
    (((r.withBits 8 shift).advance n).settled x).rxClock div x =
      ({ r.withBits 0 shift with rxPhase := .waiting }.settled x, some shift) := by
  simp [rxClock, settled, sample, advance, withBits, Nat.not_lt.mpr hn]

end BitState

variable {div : Nat} {r : BitState}

/-- Two parts of a waveform. -/
theorem receiverRun_append {xs ys : List Bool} {q t : BitState} {bs cs : List Byte}
    (hxs : receiverRun div xs r = (q, bs)) (hys : receiverRun div ys q = (t, cs)) :
    receiverRun div (xs ++ ys) r = (t, bs ++ cs) := by
  induction xs generalizing r bs with
  | nil => cases hxs; exact hys
  | cons x xs ih =>
    cases hxs
    simp [receiverRun, ih (r := (r.rxClock div x).1) rfl]

theorem receiverRun_cycle {x : Bool} {q : BitState} {o : Option Byte} (h : r.rxClock div x = (q, o)) :
    receiverRun div [x] r = (q, o.toList) := by
  simp [receiverRun, h]

/-- Three clk cycles bring a new level through the synchroniser and the edge register. -/
theorem receiverRun_settles (h : r.rxSample + 3 < r.rxPhase.cycles div) (x : Bool) :
    receiverRun div (List.replicate 3 x) r = ((r.advance 3).settled x, []) := by
  have h₁ := BitState.rxClock_counts (r := r) (div := div) (by omega) x
  have h₂ := BitState.rxClock_counts (r := (r.sample x).advance 1) (div := div) (by simp; omega) x
  have h₃ := BitState.rxClock_counts (r := (((r.sample x).advance 1).sample x).advance 1) (div := div) (by simp; omega) x
  exact receiverRun_append (receiverRun_cycle h₁) (receiverRun_append (receiverRun_cycle h₂) (receiverRun_cycle h₃))

/-- The sample counter runs while the line keeps its level. -/
theorem receiverRun_counts {n : Nat} (h : r.rxSample + n < r.rxPhase.cycles div) (x : Bool) :
    receiverRun div (List.replicate n x) (r.settled x) = ((r.advance n).settled x, []) := by
  induction n generalizing r with
  | zero => rfl
  | succ n ih =>
    have hfirst : (r.settled x).rxClock div x = ((r.advance 1).settled x, none) :=
      BitState.rxClock_counts (r := r.settled x) (by simp; omega) x
    rw [Nat.add_comm n 1, BitState.advance_add, List.replicate_add]
    exact receiverRun_append (receiverRun_cycle hfirst) (ih (by simp; omega))

/-- The receiver waits as long as the line is idle. -/
theorem receiverRun_waits (h : r.rxPhase = .waiting) (n : Nat) :
    receiverRun div (List.replicate n true) (r.settled true) = (r.settled true, []) := by
  induction n with
  | zero => rfl
  | succ n ih =>
    have hfirst : (r.settled true).rxClock div true = (r.settled true, none) := by
      simp [BitState.rxClock, BitState.settled, BitState.sample, h]
    exact receiverRun_append (receiverRun_cycle hfirst) ih

/-- The clk cycles of one level: three until it is through the synchroniser, then up to the cycle in which the receiver acts,
that cycle, and the rest. -/
theorem receiverRun_level {x : Bool} {r₁ r₂ r₃ r₄ : BitState} {o : Option Byte} (hdiv : 5 ≤ div)
    (hsync : receiverRun div (List.replicate 3 x) r = (r₁, []))
    (hcount : receiverRun div (List.replicate (div / 2 - 1) x) r₁ = (r₂, []))
    (hact : r₂.rxClock div x = (r₃, o))
    (hrest : receiverRun div (List.replicate (div - div / 2 - 3) x) r₃ = (r₄, [])) :
    receiverRun div (List.replicate div x) r = (r₄, o.toList) := by
  have hsplit : List.replicate div x = List.replicate 3 x ++ (List.replicate (div / 2 - 1) x ++
      ([x] ++ List.replicate (div - div / 2 - 3) x)) := by
    rw [← List.replicate_one, ← List.replicate_add, ← List.replicate_add, ← List.replicate_add]
    congr 1; omega
  rw [hsplit]
  simpa using receiverRun_append hsync (receiverRun_append hcount (receiverRun_append (receiverRun_cycle hact) hrest))

/-- The start bit: its edge is seen, and half a bit period later it is still 0 (R153). -/
theorem receiverRun_startBit (hdiv : 5 ≤ div) (hph : r.rxPhase = .waiting) (h0 : r.sync0 = true) (h1 : r.sync1 = true)
    (hp : r.rxPrev = true) :
    receiverRun div (List.replicate div false) r = (r.atLevel div 0 r.rxShift false, []) := by
  have hsync : receiverRun div (List.replicate 3 false) r =
      ({ r with rxPhase := .start, rxSample := 0 }.settled false, []) := by
    simp [List.replicate, receiverRun, BitState.rxClock, BitState.sample, BitState.settled, hph, h0, h1, hp]
  have hcount := receiverRun_counts (div := div) (r := { r with rxPhase := .start, rxSample := 0 }) (n := div / 2 - 1)
    (by simp [RxPhase.cycles]; omega) false
  have hrest := receiverRun_counts (div := div) (r := r.withBits 0 r.rxShift) (n := div - div / 2 - 3)
    (by simp; omega) false
  exact receiverRun_level hdiv hsync hcount (BitState.rxClock_startBit rfl (by simp; omega)) hrest

/-- A level after the start bit: the receiver acts div / 2 + 2 clk cycles after it begins, when it reads the level itself. -/
theorem receiverRun_atLevel (hdiv : 5 ≤ div) {k : Nat} {shift : Byte} {x y : Bool} {r₃ r₄ : BitState} {o : Option Byte}
    (hact : (((r.withBits k shift).advance (div - 1)).settled x).rxClock div x = (r₃, o))
    (hrest : receiverRun div (List.replicate (div - div / 2 - 3) x) r₃ = (r₄, [])) :
    receiverRun div (List.replicate div x) (r.atLevel div k shift y) = (r₄, o.toList) := by
  have hsync := receiverRun_settles (div := div) (r := r.atLevel div k shift y) (by simp [BitState.atLevel]; omega) x
  have hcount := receiverRun_counts (div := div) (r := (r.withBits k shift).advance (div - div / 2)) (n := div / 2 - 1)
    (by simp; omega) x
  rw [← BitState.advance_add, show div - div / 2 + (div / 2 - 1) = div - 1 by omega] at hcount
  rw [BitState.settled_advance_atLevel r hdiv] at hsync
  exact receiverRun_level hdiv hsync hcount hact hrest

/-- A data bit is sampled in the middle of its level (R153). -/
theorem receiverRun_dataBit (hdiv : 5 ≤ div) {k : Nat} (hk : k < 8) (shift : Byte) (x y : Bool) :
    receiverRun div (List.replicate div x) (r.atLevel div k shift y) =
      (r.atLevel div (k + 1) (BitState.shiftIn shift x) x, []) :=
  receiverRun_atLevel hdiv (BitState.rxClock_dataBit hk shift x (by omega)) (receiverRun_counts (by simp; omega) x)

/-- The stop bit position: the byte is answered and the receiver waits on the idle line (R153, R154). -/
theorem receiverRun_stopBit (hdiv : 5 ≤ div) (shift : Byte) (y : Bool) :
    receiverRun div (List.replicate div true) (r.atLevel div 8 shift y) =
      ({ r.withBits 0 shift with rxPhase := .waiting }.settled true, [shift]) :=
  receiverRun_atLevel hdiv (BitState.rxClock_stopBit shift true (by omega)) (receiverRun_waits rfl _)

/-- The data bits one after the other. -/
theorem receiverRun_dataBits (hdiv : 5 ≤ div) (xs : List Bool) {k : Nat} (hk : k + xs.length ≤ 8) (shift : Byte)
    (y : Bool) :
    ∃ z, receiverRun div (xs.flatMap (List.replicate div)) (r.atLevel div k shift y) =
      (r.atLevel div (k + xs.length) (xs.foldl BitState.shiftIn shift) z, []) := by
  induction xs generalizing k shift y with
  | nil => exact ⟨y, rfl⟩
  | cons x xs ih =>
    simp only [List.length_cons] at hk
    obtain ⟨z, hz⟩ := ih (k := k + 1) (by omega) (BitState.shiftIn shift x) x
    refine ⟨z, ?_⟩
    rw [List.flatMap_cons, receiverRun_append (receiverRun_dataBit hdiv (by omega) shift x y) hz]
    simp [Nat.add_assoc, Nat.add_comm 1]

end Sys2Proof.Machine

namespace Sys2Proof

open Machine

/-- Settles O59: level by level, from the edge of the start bit to the stop bit position. -/
theorem receiverRecoversTheCharacter : Obligations.ReceiverRecoversTheCharacter := by
  intro div b r hdiv hph h0 h1 hp
  have h5 : 5 ≤ div := by omega
  obtain ⟨z, hz⟩ := receiverRun_dataBits (r := r) h5 ((List.range 8).map b.getLsbD) (k := 0) (by simp) r.rxShift false
  rw [BitState.foldl_shiftIn, List.length_map, List.length_range] at hz
  have hrun := receiverRun_append (receiverRun_startBit h5 hph h0 h1 hp)
    (receiverRun_append hz (receiverRun_stopBit h5 b z))
  have hwave : charLevels b = false :: ((List.range 8).map b.getLsbD ++ [true]) := rfl
  rw [hwave, List.flatMap_cons, List.flatMap_append, List.flatMap_singleton]
  exact ⟨_, hrun, rfl, rfl, rfl, rfl⟩

end Sys2Proof
end

section
/-! PROOF. A byte that completes in S_RX, and the timer in the same clk cycle (spec/40_transport.md R155, 42_sequencer.md
R199 to R201). -/

namespace Sys2Proof.Machine

variable {s : State} {b : Byte}

/-- The receive step while RX_CNT is below the threshold: the byte is stored, and the 56th ends the read (R199, R200). -/
theorem receive_below (h : s.rxCnt.toNat < 56) :
    receive b s = .next (if s.rxCnt.toNat = 55 then (s.storeByte b).closeWindow else s.storeByte b) := by
  have hcap : ¬Config.bufCap ≤ s.rxCnt.toNat := Nat.not_le.mpr (Nat.lt_trans h (by decide))
  by_cases hl : s.rxCnt.toNat = 55
  · rw [receive, if_neg hcap, if_pos (by rw [hl]), if_pos hl]
  · rw [receive, if_neg hcap, if_neg (fun he => hl (Nat.succ.inj he)), if_neg hl]

/-- A clk cycle of S_RX in which a byte completes: the timer wins in the cycle of its 960th count, else the byte goes to the
receive step, with the divider at 0 (R155, R201, log 20). -/
theorem clockRx_byte {rx : Bool} (hb : (s.bit.rxClock (bitDiv s.cfg) rx).2 = some b) (hlt : s.idleTmr.toNat < 960) :
    clockRx rx s =
      if timerRuns s = true ∧ s.idleTmr = 959#10 ∧ bitDiv s.cfg ≤ s.bit.div + 1 then .next s.expire
      else receive b { s with bit := { (s.bit.rxClock (bitDiv s.cfg) rx).1 with div := 0 } } := by
  have h959 : s.idleTmr = 959#10 ↔ 960 ≤ s.idleTmr.toNat + 1 := by
    rw [← BitVec.toNat_inj, BitVec.toNat_ofNat]; omega
  have hkept : ¬Config.tIdle ≤ s.idleTmr.toNat := Nat.not_le.mpr hlt
  by_cases hp : s.bit.div + 1 < bitDiv s.cfg
  · simp [clockRx, hb, hkept, hp, Nat.not_le.mpr hp]
  · cases hr : timerRuns s with
    | false => simp [clockRx, hb, hkept, hr]
    | true => simp [clockRx, Config.tIdle, hb, hp, hr, h959, Nat.le_of_not_lt hp]

end Sys2Proof.Machine

namespace Sys2Proof

open Machine

/-- Settles O60: the timer's branch of the clk cycle, or the receive step below its threshold. -/
theorem timerWinsOverASimultaneousByte : Obligations.TimerWinsOverASimultaneousByte := by
  intro s p b hw hr hs hcnt hlt hb
  rw [clockStep_rx hw hr hs, clockRx_byte hb hlt]
  split
  · rfl
  · exact receive_below hcnt

end Sys2Proof
end

section
/-! PROOF. OPEN, CLOSE and IS_OPENED at their acceptance (spec/40_transport.md R131 to R135). -/

namespace Sys2Proof.Machine

variable {s : State} (a : Byte)

/-- OPEN in S_IDLE (R131, R132). -/
theorem exec_openLine (hs : s.seq = .idle) :
    exec (.openLine a) s = .next { s with
      op := 0x1#4, arg := a, opened := s.openOk, resBool := s.openOk, done := true,
      status := if s.openOk then .ok else .error .unknown } := by
  have heffect : exec (.openLine a) s = .next (openEffect (s.latch 0x1#4 a)) := exec_idle _ s hs
  rw [heffect, openEffect_eq]
  cases hok : s.openOk with
  | true => simp [hok, hs, State.latch, State.setOpened, State.setResult, State.complete]
  | false => simp [hok, hs, State.latch, State.setOpened, State.setResult, State.raise]

/-- CLOSE in S_IDLE (R133). -/
theorem exec_closeLine (hs : s.seq = .idle) :
    exec (.closeLine a) s = .next { s with
      op := 0x2#4, arg := a, opened := false, resBool := true, done := true, status := .ok } := by
  rw [exec_idle _ s hs, hs]; rfl

/-- IS_OPENED in S_IDLE (R135). -/
theorem exec_isOpened (hs : s.seq = .idle) :
    exec (.isOpened a) s = .next { s with
      op := 0x3#4, arg := a, resBool := s.opened, done := true, status := .ok } := by
  rw [exec_idle _ s hs, hs]; rfl

/-- RES_BOOL is readable after a handle command that succeeds (R36). -/
theorem resBoolPort_of_ok (hd : s.done = true) (hok : s.status = .ok) (hop : s.op = 0x1#4 ∨ s.op = 0x2#4 ∨ s.op = 0x3#4) :
    resBoolPort s = some s.resBool :=
  resBoolPort_eq_some.mpr ⟨boolValid_iff.mpr ⟨hd, .inl ⟨hok, hop⟩⟩, rfl⟩

end Sys2Proof.Machine

namespace Sys2Proof

open Machine

/-- Settles O9: the state after OPEN; RES_BOOL is valid after a success and after an OPEN that reports Unknown. -/
theorem openTakesThePlatformsAnswer : Obligations.OpenTakesThePlatformsAnswer := by
  intro a s hs
  refine ⟨_, exec_openLine a hs, rfl, resBoolPort_eq_some.mpr ⟨boolValid_iff.mpr ⟨rfl, ?_⟩, rfl⟩⟩
  cases s.openOk with
  | true => exact .inl ⟨rfl, .inl rfl⟩
  | false => exact .inr ⟨rfl, rfl⟩

/-- Settles O10: the state after CLOSE is in S_IDLE and already holds what a second CLOSE writes. -/
theorem closeSucceedsAndIsIdempotent : Obligations.CloseSucceedsAndIsIdempotent := fun a _ hs =>
  ⟨_, exec_closeLine a hs, rfl, resBoolPort_of_ok rfl rfl (.inr (.inl rfl)), exec_closeLine a hs⟩

/-- Settles O11: the state after IS_OPENED, in which RES_BOOL is valid. -/
theorem isOpenedReportsTheHandle : Obligations.IsOpenedReportsTheHandle := fun a _ hs =>
  ⟨_, exec_isOpened a hs, rfl, resBoolPort_of_ok rfl rfl (.inr (.inr rfl))⟩

end Sys2Proof
end

section
/-! PROOF. The checksum as a sum modulo 256: the negation of the 8-bit sum, and the byte that makes the whole sum 0
(spec/41_framecodec.md R160, R161). -/

namespace Sys2Proof.Machine

theorem byteSum_eq_sum (bs : List Byte) : byteSum bs = (bs.map BitVec.toNat).sum := by
  induction bs with
  | nil => rfl
  | cons b bs ih => rw [byteSum, ih, List.map_cons, List.sum_cons]

/-- Adding bytes at 8 bits adds their exact sum and drops the carries. -/
theorem foldl_add_eq_byteSum (bs : List Byte) (a : Byte) :
    bs.foldl (· + ·) a = a + BitVec.ofNat 8 (byteSum bs) := by
  induction bs generalizing a with
  | nil => simp [byteSum]
  | cons b bs ih => rw [List.foldl_cons, ih, byteSum, BitVec.ofNat_add, BitVec.ofNat_toNat, BitVec.setWidth_eq,
      BitVec.add_assoc]

/-- The checksum is the negation of the 8-bit sum (R160). -/
theorem checksum_eq_neg_foldl (bs : List Byte) : checksum bs = - bs.foldl (· + ·) 0#8 := by
  apply BitVec.eq_of_toNat_eq
  rw [foldl_add_eq_byteSum, BitVec.zero_add, BitVec.toNat_neg, checksum_toNat, BitVec.toNat_ofNat]

/-- The checksum is the one byte that makes the sum 0 modulo 256 (R161). -/
theorem eq_checksum_iff (bs : List Byte) (c : Byte) : c = checksum bs ↔ byteSum (bs ++ [c]) % 256 = 0 := by
  have hc := c.isLt
  rw [← BitVec.toNat_inj, checksum_toNat, byteSum_append]
  simp only [byteSum]
  omega

/-- The byte at an index is the checksum of those before it exactly when together they sum to 0 modulo 256. -/
theorem checksum_take_eq_iff {l : List Byte} {m : Nat} (hm : m < l.length) :
    checksum (l.take m) = l.getD m 0#8 ↔ byteSum (l.take (m + 1)) % 256 = 0 := by
  rw [eq_comm, eq_checksum_iff, List.getD_eq_getElem _ _ hm, List.take_concat_get' l m hm]

/-- One altered byte changes a sum that was 0 modulo 256 (R168). -/
theorem byteSum_set_mod_ne {l : List Byte} {k : Nat} {b : Byte} (hk : k < l.length) (hne : l[k] ≠ b)
    (h0 : byteSum l % 256 = 0) : byteSum (l.set k b) % 256 ≠ 0 := by
  have hset := byteSum_set l k b hk
  have hold := l[k].isLt
  have hnew := b.isLt
  have hdiff : l[k].toNat ≠ b.toNat := fun h => hne (BitVec.eq_of_toNat_eq h)
  omega

end Sys2Proof.Machine

namespace Sys2Proof

open Machine

/-- Settles O32: `eq_checksum_iff` on the exact sum. -/
theorem checksumMakesTheFrameSumZero : Obligations.ChecksumMakesTheFrameSumZero := by
  intro bs c
  rw [← byteSum_eq_sum]
  exact eq_checksum_iff bs c

/-- Settles O31: the formula is the definition's own, the negation is `checksum_eq_neg_foldl`, and the place in the
frame is the one Validate compares (`validate_ok`). -/
theorem checksumNegatesTheByteSum : Obligations.ChecksumNegatesTheByteSum := by
  refine ⟨fun bs => ⟨?_, checksum_eq_neg_foldl bs⟩, rfl, fun buf n v h => ?_⟩
  · rw [← byteSum_eq_sum, checksum_toNat]
  · obtain ⟨-, hlen, -, -, -, hsum, -⟩ := validate_ok h
    rwa [hlen] at hsum

end Sys2Proof
end

section
/-! PROOF. Validate step by step (spec/41_framecodec.md R165), what it detects (R168) and what it ignores (R169,
R170). -/

namespace Sys2Proof.Machine

variable {buf : List Byte} {n : Nat}

theorem validate_of_length_lt_two (h : buf.length < 2) : validate buf n = .error .insufficientData := by
  match buf, h with
  | [], _ => rfl
  | [_], _ => rfl

/-- Validate on a buffer that holds a len byte, its tests on the buffer's bytes by index. -/
theorem validate_eq (h : 2 ≤ buf.length) :
    validate buf n =
      if buf.length < (buf.getD 1 0#8).toNat + 3 then .error .insufficientData
      else if buf.getD 0 0#8 ≠ Config.headRsp then .error .rxHeader
      else if checksum (buf.take ((buf.getD 1 0#8).toNat + 2)) ≠ buf.getD ((buf.getD 1 0#8).toNat + 2) 0#8 then
        .error .checksum
      else if buf.length < n then .error .insufficientData
      else .ok { offset := 2, length := (buf.getD 1 0#8).toNat } := by
  match buf, h with
  | head :: len :: rest, _ =>
    refine ite_congr rfl (fun _ => rfl) fun (hdecl : ¬(head :: len :: rest).length < len.toNat + 3) =>
      ite_congr rfl (fun _ => rfl) fun _ => ite_congr ?_ (fun _ => rfl) fun _ => rfl
    have hlast := byteAt_eq (head :: len :: rest) (len.toNat + 2) (by omega)
    rw [declaredLength, Nat.add_one_sub_one, hlast, Ne, Option.some_inj]
    exact propext ne_comm

/-- The bytes of a frame that validates, its checksum with them, sum to 0 modulo 256. -/
theorem byteSum_of_validate_ok {v : View} (h : validate buf n = .ok v) :
    byteSum (buf.take (v.length + 3)) % 256 = 0 := by
  obtain ⟨-, -, -, hdecl, -, hsum, -⟩ := validate_ok h
  have hlt : v.length + 2 < buf.length := by omega
  refine (checksum_take_eq_iff hlt).mp ?_
  rw [List.getD_eq_getElem?_getD, hsum, Option.getD_some]

/-- A success depends only on the declared frame and on whether enough bytes were received (R169, R170). -/
theorem validate_ok_of_take_eq {v : View} {buf' : List Byte} (h : validate buf n = .ok v)
    (hframe : buf'.take (v.length + 3) = buf.take (v.length + 3)) (hn : n ≤ buf'.length) :
    validate buf' n = .ok v := by
  obtain ⟨-, hlen, hoff, hdecl, hhead, -, -⟩ := validate_ok h
  have hdecl' : v.length + 3 ≤ buf'.length := by
    have := congrArg List.length hframe
    simp only [List.length_take] at this
    omega
  have hbyte : ∀ k < v.length + 3, buf'.getD k 0#8 = buf.getD k 0#8 := fun k hk => by
    rw [List.getD_eq_getElem?_getD, ← List.getElem?_take_of_lt hk, hframe, List.getElem?_take_of_lt hk,
      List.getD_eq_getElem?_getD]
  have hsum : checksum (buf'.take (v.length + 2)) = buf'.getD (v.length + 2) 0#8 :=
    (checksum_take_eq_iff hdecl').mpr (hframe ▸ byteSum_of_validate_ok h)
  rw [validate_eq (by omega), hbyte 1 (by omega), hbyte 0 (by omega), ← hlen, if_neg (by omega), hhead,
    if_neg (not_not.mpr rfl), if_neg (not_not.mpr hsum), if_neg (by omega), ← hoff]

theorem getD_set_ne {j k : Nat} (b : Byte) (h : k ≠ j) : (buf.set k b).getD j 0#8 = buf.getD j 0#8 := by
  rw [List.getD_eq_getElem?_getD, List.getElem?_set_ne h, List.getD_eq_getElem?_getD]

/-- An altered head is the first thing Validate finds (R168). -/
theorem validate_set_head {v : View} (h : validate buf n = .ok v) {b : Byte} (hb : b ≠ Config.headRsp) :
    validate (buf.set 0 b) n = .error .rxHeader := by
  obtain ⟨h2, hlen, -, hdecl, -, -, -⟩ := validate_ok h
  have hbyte : (buf.set 0 b).getD 0 0#8 = b := by
    rw [List.getD_eq_getElem _ _ (by rw [List.length_set]; omega), List.getElem_set_self]
  rw [validate_eq (by rwa [List.length_set]), getD_set_ne b (by omega), ← hlen, List.length_set, if_neg (by omega),
    hbyte, if_pos hb]

/-- Another altered byte behind the len byte leaves head and length as they are, and spoils the sum (R168). -/
theorem validate_set_of_two_le {v : View} (h : validate buf n = .ok v) {k : Nat} {b : Byte} (hk2 : 2 ≤ k)
    (hk : k < v.length + 3) (hb : buf[k]? ≠ some b) : validate (buf.set k b) n = .error .checksum := by
  obtain ⟨h2, hlen, -, hdecl, hhead, -, -⟩ := validate_ok h
  have hlt : k < (buf.take (v.length + 3)).length := by rw [List.length_take]; omega
  have hold : (buf.take (v.length + 3))[k] ≠ b := by
    rw [List.getElem_take]; exact fun e => hb (e ▸ List.getElem?_eq_getElem (by omega))
  have hsum : checksum ((buf.set k b).take (v.length + 2)) ≠ (buf.set k b).getD (v.length + 2) 0#8 := by
    rw [Ne, checksum_take_eq_iff (by rw [List.length_set]; omega), List.take_set]
    exact byteSum_set_mod_ne hlt hold (byteSum_of_validate_ok h)
  rw [validate_eq (by rwa [List.length_set]), getD_set_ne b (by omega), getD_set_ne b (by omega), ← hlen,
    List.length_set, if_neg (by omega), hhead, if_neg (not_not.mpr rfl), if_pos hsum]

end Sys2Proof.Machine

namespace Sys2Proof

open Machine

/-- Settles O33: the tests of `validate_eq`, one after the other. -/
theorem validateFollowsItsSteps : Obligations.ValidateFollowsItsSteps := by
  intro buf n
  refine ⟨validate_of_length_lt_two, fun hlen => ?_⟩
  rw [validate_eq hlen]
  refine ⟨fun hshort => if_pos hshort, fun hdecl => ?_⟩
  rw [if_neg (Nat.not_lt.mpr hdecl)]
  refine ⟨fun hhead => if_pos hhead, fun hhead => ?_⟩
  rw [if_neg (not_not.mpr hhead)]
  refine ⟨fun hsum => if_pos hsum, fun hsum => ?_⟩
  rw [if_neg (not_not.mpr hsum)]
  exact ⟨fun hfew => if_pos hfew, fun hmin => if_neg (Nat.not_lt.mpr hmin)⟩

/-- Settles O34: the head by `validate_set_head`, every byte behind the len byte by `validate_set_of_two_le`. -/
theorem oneAlteredByteIsDetected : Obligations.OneAlteredByteIsDetected := by
  intro buf n v k b h hb hk
  refine ⟨fun hk0 => ?_, fun hk2 => validate_set_of_two_le h hk2 hk hb⟩
  obtain ⟨h2, -, -, -, hhead, -, -⟩ := validate_ok h
  subst hk0
  refine validate_set_head h fun e => hb ?_
  rw [e, ← hhead, List.getD_eq_getElem _ _ (by omega), List.getElem?_eq_getElem]

/-- Settles O35: both buffers begin with the declared frame of `buf`, and are long enough. -/
theorem bytesAfterTheFrameAreIgnored : Obligations.BytesAfterTheFrameAreIgnored := by
  intro buf more n v h
  obtain ⟨-, -, -, hdecl, -, -, hn⟩ := validate_ok h
  have hframe : (buf.take (v.length + 3)).length = v.length + 3 := List.length_take_of_le hdecl
  refine ⟨validate_ok_of_take_eq h (List.take_append_of_le_length hdecl) ?_, hdecl, fun tail hmin =>
    validate_ok_of_take_eq h (List.take_left' hframe) ?_⟩
  · rw [List.length_append]; omega
  · rw [List.length_append, hframe]; exact hmin

end Sys2Proof
end

section
/-! PROOF. A well-formed request frame byte by byte (spec/30_encoding.md R91, R97, 41_framecodec.md R175). -/

namespace Sys2Proof.Machine

variable {frame : List Byte}

/-- Head and len byte of a well-formed frame (R91, R97). -/
theorem frameWf_headAndLen (h : Config.frameWf frame = true) :
    frame[0]? = some Config.headReq ∧ frame[1]? = some (BitVec.ofNat 8 (frame.length - 3)) := by
  simp only [Config.frameWf, Config.headAndLen, Bool.and_eq_true, beq_iff_eq] at h
  obtain ⟨⟨-, hheadAndLen⟩, -⟩ := h
  exact hheadAndLen

/-- The bytes of a well-formed frame, its checksum with them, sum to 0 modulo 256 (R161, R175). -/
theorem frameWf_byteSum (h : Config.frameWf frame = true) : byteSum frame % 256 = 0 := by
  simp only [Config.frameWf, Bool.and_eq_true, beq_iff_eq] at h
  obtain ⟨-, hlast⟩ := h
  rw [← List.dropLast_append_getLast? _ hlast]
  exact (eq_checksum_iff _ _).mp rfl

end Sys2Proof.Machine

namespace Sys2Proof

open Machine

/-- Settles O38: every entry of the ROM is a well-formed frame (`rom_frameWf`), and its len byte holds because a length
of at most 255 fits in a byte. -/
theorem everyRequestIsAWellFormedFrame : Obligations.EveryRequestIsAWellFormedFrame := by
  intro cfg op v hw hd
  have hframe := rom_frameWf hw hd v
  obtain ⟨hmin, hmax⟩ := frameWf_length _ hframe
  obtain ⟨hhead, hlen⟩ := frameWf_headAndLen hframe
  refine ⟨hmin, hmax, hhead, ?_, ?_⟩
  · rw [List.getD_eq_getElem?_getD, hlen, Option.getD_some, BitVec.toNat_ofNat, Nat.mod_eq_of_lt (by omega)]
  · rw [← byteSum_eq_sum]
    exact frameWf_byteSum hframe

end Sys2Proof
end

section
/-! PROOF. Which command a step runs (spec/42_sequencer.md R192, R302), and the acceptance of the device commands (R194 to
R196). -/

namespace Sys2Proof.Machine

open Claims (deviceInstrs InFlight)

variable {i : Instr} {s : State} {a : Byte}

/-- A word that decodes carries the two fields of its command (R110, log 23). -/
theorem decodeTableWord_eq_some {n w : Nat} (h : decodeTableWord n w = some i) :
    decodeOp (BitVec.ofNat 4 (w / 256)) (BitVec.ofNat 8 (w % 256)) = i := by
  have hfield : (BitVec.ofNat 8 (w / 256)).extractLsb' 0 4 = BitVec.ofNat 4 (w / 256) := by
    apply BitVec.eq_of_toNat_eq
    simp
  unfold decodeTableWord at h
  split at h
  · split at h
    · next j hj =>
      cases h
      obtain ⟨lo, hi, hbytes, -, rfl⟩ := decodeBytes_eq_ok.mp hj
      cases hbytes
      rw [hfield]
    · cases h
  · cases h

/-- A device command presented in S_IDLE (R195 lines 5 to 7). -/
theorem exec_device_idle (hs : s.seq = .idle) (hd : isDeviceOp i.opcode = true) :
    exec i s = .next (acceptDevice i.opcode i.operand (argInRange i.opcode i.operand) s) := by
  rw [exec_idle i s hs, if_pos hd]

theorem acceptDevice_closed (ho : s.opened = false) (op : Opcode) (arg : Byte) (argOk : Bool) :
    acceptDevice op arg argOk s = (s.latch op arg).raise .notOpened :=
  if_pos ho

theorem acceptDevice_open (ho : s.opened = true) (op : Opcode) (arg : Byte) :
    acceptDevice op arg true s = (s.latch op arg).startExchange := by
  simp [acceptDevice, ho]

/-- Every command of the list is a device command with the list's argument. -/
theorem mem_deviceInstrs (h : i ∈ deviceInstrs a) : isDeviceOp i.opcode = true ∧ i.operand = a := by
  simp only [deviceInstrs, List.mem_cons, List.not_mem_nil, or_false] at h
  rcases h with rfl | rfl | rfl | rfl | rfl | rfl | rfl <;> exact ⟨rfl, rfl⟩

/-- Only SETUP_CALIB_COEFF has an argument to test (R195 line 6). -/
theorem argInRange_of_mem (h : i ∈ deviceInstrs a) (hcal : i = .setupCalibCoeff a → 10 ≤ a.toNat ∧ a.toNat ≤ 250) :
    argInRange i.opcode a = true := by
  simp only [deviceInstrs, List.mem_cons, List.not_mem_nil, or_false] at h
  rcases h with rfl | rfl | rfl | rfl | rfl | rfl | rfl
  case inr.inr.inr.inl =>
    obtain ⟨hmin, hmax⟩ := hcal rfl
    simp [argInRange, calibInRange, Instr.opcode, hmin, hmax]
  all_goals rfl

end Sys2Proof.Machine

namespace Sys2Proof

open Machine

/-- Settles O4: the three cases of `step` without reset, each with the state it hands to exec. -/
theorem stepRunsTheDecodedCommand : Obligations.StepRunsTheDecodedCommand := by
  intro s hw hr
  refine ⟨fun c rest i hs hh hi => ?_, fun i hs hi => ?_, fun hs hh => step_waits s hw hr hs hh⟩
  · rw [step_accepts s c rest hw hr hs hh, hi]; rfl
  · rw [step_continues s hw hr hs, hi]; rfl

/-- Settles O5: the placed command is first in the queue and brings the `open_ok` and the line the state has. -/
theorem placedWordRunsNext : Obligations.PlacedWordRunsNext := by
  intro s w i hw hi
  rw [step_accepts (s.withFetchWord 16 w) _ _ hw rfl rfl rfl, decodeTableWord_eq_some hi]
  rfl

/-- Settles O13: the acceptance finds the handle closed before it looks at the argument; OPEN, CLOSE and IS_OPENED complete
with a STATUS of their own. -/
theorem closedHandleRejectsDeviceCommands : Obligations.ClosedHandleRejectsDeviceCommands := by
  intro a s hs ho
  refine ⟨fun i hi => ?_, fun i hi => ?_⟩
  · obtain ⟨hd, harg⟩ := mem_deviceInstrs hi
    rw [exec_device_idle hs hd, acceptDevice_closed ho, harg, hs]
    rfl
  · simp only [List.mem_cons, List.not_mem_nil, or_false] at hi
    rcases hi with rfl | rfl | rfl
    · refine ⟨_, exec_openLine a hs, ?_⟩
      cases s.openOk <;> simp
    · exact ⟨_, exec_closeLine a hs, by simp⟩
    · exact ⟨_, exec_isOpened a hs, by simp⟩

/-- Settles O15: an open handle and an argument in range leave the dispatch its last line, the start of the exchange. -/
theorem openHandleStartsTheExchange : Obligations.OpenHandleStartsTheExchange := by
  intro a s hs ho i hi hcal
  obtain ⟨hd, harg⟩ := mem_deviceInstrs hi
  rw [exec_device_idle hs hd, harg, argInRange_of_mem hi hcal, acceptDevice_open ho]
  rfl

/-- Settles O16: `exec_other`, for a command that is not the one in flight. -/
theorem busyEngineAcceptsNoOtherCommand : Obligations.BusyEngineAcceptsNoOtherCommand :=
  fun i s hb hother => exec_other i s hb fun hd hlatched => hother ⟨hd, hlatched⟩

end Sys2Proof
end

section
/-! PROOF. The phases of an exchange, one equation for each branch of the transmit, receive and check steps
(spec/42_sequencer.md R197 to R204). -/

namespace Sys2Proof.Machine

variable {s : State}

/-- The transmit step while TX_IDX is in the frame (R197, R198). -/
theorem transmit_eq {b : Byte} (hb : s.frame[s.txIdx.toNat]? = some b) :
    transmit s =
      .next (if s.txIdx.toNat + 1 = s.frame.length then (s.sentByte b).openWindow else s.sentByte b) := by
  simp only [transmit, hb]
  split <;> rfl

/-- A byte that comes before the timer's expiry goes to the receive step (R199). -/
theorem listenLine_receives {c : RxChar} {rest : List RxChar} (hl : s.line = c :: rest)
    (hg : timerRuns s = true → c.gap < 960) : listenLine s = receive c.byte { s with line := rest } := by
  have hno : ¬(timerRuns s && Config.tIdle ≤ c.gap) = true := by
    simp only [Bool.and_eq_true, decide_eq_true_eq, not_and, Nat.not_le]
    exact hg
  simp only [listenLine, hl, if_neg hno]

/-- Without such a byte the running timer ends the read (R201). -/
theorem listenLine_expires (ht : timerRuns s = true) (hg : ∀ c rest, s.line = c :: rest → 960 ≤ c.gap) :
    listenLine s = .next s.expire := by
  unfold listenLine
  split
  · rw [if_pos ht]
  · next c rest hl => rw [ht, Bool.true_and, if_pos (decide_eq_true (hg c rest hl))]

/-- A silent line whose timer does not run (R209, log 26). -/
theorem listenLine_silent (ht : timerRuns s = false) (hl : s.line = []) : listenLine s = .next s := by
  simp [listenLine, hl, ht]

/-- The step in S_RX that stores a byte, with the end of the read at the 56th (R199, R200). -/
theorem listenLine_stores {c : RxChar} {rest : List RxChar} (hcnt : s.rxCnt.toNat < 56) (hl : s.line = c :: rest)
    (hg : timerRuns s = true → c.gap < 960) :
    listenLine s = .next
      (if s.rxCnt.toNat = 55 then (({ s with line := rest } : State).storeByte c.byte).closeWindow
        else ({ s with line := rest } : State).storeByte c.byte) := by
  rw [listenLine_receives hl hg]
  exact receive_below (s := { s with line := rest }) hcnt

/-- The check step passes a validation error on (R204). -/
theorem check_invalid {buf : List Byte} {n : Nat} {e : ErrorKind} (d : Decoder) (hbuf : Claims.Received s buf)
    (he : validate buf n = .error e) : check n d s = .next (s.raise e) := by
  unfold Claims.Received at hbuf
  simp only [check, hbuf, he]

end Sys2Proof.Machine

namespace Sys2Proof

open Machine

/-- Settles O18: `transmit_eq` for the command in flight. -/
theorem transmitStepSendsTheNextByte : Obligations.TransmitStepSendsTheNextByte := by
  intro i s b ⟨hd, ho, ha⟩ hs hb
  rw [exec_tx i s hs hd ho ha, transmit_eq hb]
  rfl

/-- Settles O20: `listenLine_stores` for the command in flight. -/
theorem readEndsAtTheFiftySixthByte : Obligations.ReadEndsAtTheFiftySixthByte := by
  intro i s c rest ⟨hd, ho, ha⟩ hs hcnt hl hg
  rw [exec_rx i s hs hd ho ha, listenLine_stores hcnt hl hg]
  rfl

/-- Settles O19: the fields of the state that `readEndsAtTheFiftySixthByte` gives, with RXBUF read after the write. -/
theorem receiveStepStoresTheByteAtRxCnt : Obligations.ReceiveStepStoresTheByteAtRxCnt := by
  intro i s c rest hf hs hcnt hl hg
  refine ⟨_, readEndsAtTheFiftySixthByte i s c rest hf hs hcnt hl hg, ?_⟩
  have hsucc := rxCnt_succ_toNat hcnt
  have hother (k : Nat) (hk : k ≠ s.rxCnt.toNat) := Memory.read_write_other s.rxbuf s.rxCnt.toNat k c.byte hk
  split
  · next h55 => exact ⟨hsucc, rfl, Memory.read_write_same _ _ _, hother, fun hlt => by omega⟩
  · exact ⟨hsucc, rfl, Memory.read_write_same _ _ _, hother, fun _ => hs⟩

/-- Settles O21: `listenLine_expires` for the command in flight. -/
theorem inactivityEndsTheRead : Obligations.InactivityEndsTheRead := by
  intro i s ⟨hd, ho, ha⟩ hs ht hg
  rw [exec_rx i s hs hd ho ha, listenLine_expires ht hg]
  rfl

/-- Settles O23: `check_invalid` for the command in flight. -/
theorem validationErrorIsReported : Obligations.ValidationErrorIsReported := by
  intro i s buf e ⟨hd, ho, ha⟩ hs hbuf he
  rw [exec_check i s hs hd ho ha, check_invalid _ hbuf he]
  rfl

end Sys2Proof
end

section
/-! PROOF. The state graph of SEQ, half duplex, and the bound on the length of an exchange (spec/42_sequencer.md R191, R202,
R209, R210). -/

namespace Sys2Proof.Machine

open Claims (InFlight)

variable {i : Instr} {s t : State}

/-- A step without reset is exec in a state that differs in the environment only, or the wait in S_IDLE (R192, R302). -/
theorem step_exec (h : step s = .next t) (hr : s.rstNow = false) :
    t = s.tick ∨ ∃ i host openOk line,
      exec i { s with host := host, openOk := openOk, line := line, rst := s.rst.tail } = .next t := by
  obtain ⟨-, ⟨hreset, -⟩ | ⟨-, -, -, rfl⟩ | ⟨-, -, c, rest, -, hx⟩ | ⟨-, -, hx⟩⟩ := step_cases s t h
  · simp [hr] at hreset
  · exact .inl rfl
  · exact .inr ⟨_, rest, c.openOk, c.stream, hx⟩
  · exact .inr ⟨_, s.host, s.openOk, s.line, hx⟩

/-- Only the transmit step puts a byte on the line, the byte of the frame at TX_IDX (R197). -/
theorem exec_txLine (h : exec i s = .next t) :
    t.txLine = s.txLine ∨
      (s.seq = .tx ∧ t.rxbuf = s.rxbuf ∧ ∃ b, s.frame[s.txIdx.toNat]? = some b ∧ t.txLine = s.txLine ++ [b]) := by
  have hsends (hf : InFlight i s) (hs : s.seq = .tx) :
      s.seq = .tx ∧ t.rxbuf = s.rxbuf ∧ ∃ b, s.frame[s.txIdx.toNat]? = some b ∧ t.txLine = s.txLine ++ [b] := by
    obtain ⟨hd, ho, ha⟩ := hf
    rw [exec_tx i s hs hd ho ha] at h
    obtain ⟨b, hb, ⟨-, rfl⟩ | ⟨-, rfl⟩⟩ := transmit_cases s t h
    · exact ⟨hs, rfl, b, hb, rfl⟩
    · exact ⟨hs, rfl, b, hb, rfl⟩
  cases exec_outcome h with
  | sent _ hf hs => exact .inr (hsends hf hs)
  | sentLast _ hf hs => exact .inr (hsends hf hs)
  | decoded => exact .inl (by simp)
  | _ => exact .inl rfl

/-- Only the receive step stores a byte, and it sends none (R199, R210). -/
theorem exec_rxbuf (h : exec i s = .next t) : t.rxbuf = s.rxbuf ∨ (s.seq = .rx ∧ t.txLine = s.txLine) := by
  cases exec_outcome h with
  | received _ _ _ hs => exact .inr ⟨hs, rfl⟩
  | receivedLast _ _ _ hs => exact .inr ⟨hs, rfl⟩
  | decoded => exact .inl (by simp)
  | _ => exact .inl rfl

/-- A step without reset in S_TX is the transmit step of the latched command (R197). -/
theorem step_tx (hw : s.cfg.wf = true) (hr : s.rstNow = false) (hd : isDeviceOp s.op = true) (hs : s.seq = .tx) :
    step s = transmit s.tick := by
  rw [step_continues s hw hr (by simp [hs])]
  exact exec_latched_tx (s := s.tick) hs hd

/-- A step without reset in S_RX is the receive step of the latched command (R199). -/
theorem step_rx (hw : s.cfg.wf = true) (hr : s.rstNow = false) (hd : isDeviceOp s.op = true) (hs : s.seq = .rx) :
    step s = listenLine s.tick := by
  rw [step_continues s hw hr (by simp [hs])]
  exact exec_latched_rx (s := s.tick) hs hd

/-- A step without reset in S_CHECK is the check step of the latched command (R204). -/
theorem step_check (hw : s.cfg.wf = true) (hr : s.rstNow = false) (hd : isDeviceOp s.op = true) (hs : s.seq = .check) :
    step s = check (minLen s.cfg s.op) (decoderOf s.op) s.tick := by
  rw [step_continues s hw hr (by simp [hs])]
  exact exec_latched_check (s := s.tick) hs hd

/-- A busy engine with no device opcode latched stays as it is; no run gets there (R42 (c)). -/
theorem step_busy_none (hw : s.cfg.wf = true) (hr : s.rstNow = false) (hd : ¬isDeviceOp s.op = true)
    (hb : s.seq ≠ .idle) : step s = .next s.tick := by
  rw [step_continues s hw hr hb]
  exact exec_latched_none (s := s.tick) hb hd

theorem wf_of_step_next (h : step s = .next t) : s.cfg.wf = true := (step_cases s t h).1

/-- A command without an exchange has completed at its acceptance (R195 lines 1 to 4). -/
theorem effectOf_completes (op : Opcode) (s : State) : (effectOf op s).seq = .idle ∧ (effectOf op s).done = true := by
  rcases effectOf_cases op s with ⟨-, he⟩ | ⟨-, he⟩ | ⟨-, he⟩ | ⟨-, -, -, he⟩ <;> rw [he]
  · rw [openEffect_eq]; split <;> exact ⟨rfl, rfl⟩
  all_goals exact ⟨rfl, rfl⟩

/-- The edges of the state graph out of S_IDLE (R193 to R196, R302). -/
theorem step_from_idle (h : step s = .next t) (hr : s.rstNow = false) (hs : s.seq = .idle) :
    (t.seq = .tx ∧ s.opened = true ∧ isDeviceOp t.op = true ∧ argInRange t.op t.arg = true) ∨
    (t.seq = .idle ∧ (t.done = true ∨ (s.host = [] ∧ t = s.tick))) := by
  have hw := wf_of_step_next h
  cases hh : s.host with
  | nil =>
    rw [step_waits s hw hr hs hh] at h; cases h
    exact .inr ⟨hs, .inr ⟨rfl, rfl⟩⟩
  | cons c rest =>
    rw [step_accepts s c rest hw hr hs hh, exec_idle _ (s.tick.present c rest) hs, opcode_decodeOp, operand_decodeOp] at h
    split at h <;> cases h
    · next hd =>
      rcases acceptDevice_cases c.op c.arg (argInRange c.op c.arg) (s.tick.present c rest) with
        ⟨-, he⟩ | ⟨-, -, he⟩ | ⟨ho, harg, he⟩ <;> rw [he]
      · exact .inr ⟨rfl, .inl rfl⟩
      · exact .inr ⟨rfl, .inl rfl⟩
      · exact .inl ⟨rfl, ho, hd, harg⟩
    · obtain ⟨hseq, hdone⟩ := effectOf_completes c.op ((s.tick.present c rest).latch c.op c.arg)
      exact .inr ⟨hseq, .inl hdone⟩

/-- The edges out of S_TX (R197, R198). -/
theorem step_from_tx (h : step s = .next t) (hr : s.rstNow = false) (hd : isDeviceOp s.op = true) (hs : s.seq = .tx) :
    (t.seq = .rx ∧ t.txIdx.toNat = s.frame.length) ∨
    (t.seq = .tx ∧ t.txIdx.toNat = s.txIdx.toNat + 1 ∧ t.txIdx.toNat < s.frame.length) := by
  have hw := wf_of_step_next h
  rw [step_tx hw hr hd hs] at h
  obtain ⟨b, hb, hcase⟩ := transmit_cases _ _ h
  obtain ⟨hlt, -⟩ := List.getElem?_eq_some_iff.mp hb
  have hsucc := txIdx_succ_toNat hw hd hlt
  obtain ⟨hlast, rfl⟩ | ⟨hmore, rfl⟩ := hcase
  · exact .inl ⟨rfl, hsucc.trans hlast⟩
  · exact .inr ⟨hs, hsucc, hsucc.trans_lt (Nat.lt_of_le_of_ne hlt hmore)⟩

/-- The edges out of S_RX (R199 to R201, R209). -/
theorem step_from_rx (h : step s = .next t) (hr : s.rstNow = false) (hd : isDeviceOp s.op = true) (hs : s.seq = .rx) :
    (t.seq = .check ∧ (t.rxCnt.toNat = 56 ∨ t.idleTmr = 960#10)) ∨
    (t.seq = .rx ∧ t.rxCnt.toNat = s.rxCnt.toNat + 1 ∧ t.rxCnt.toNat ≠ 56) ∨
    (t.seq = .rx ∧ s.line = [] ∧ timerRuns s = false ∧ t = s.tick) := by
  rw [step_rx (wf_of_step_next h) hr hd hs] at h
  obtain ⟨hl, ht, rfl⟩ | ⟨-, -, rfl⟩ | ⟨c, rest, -, -, hrec⟩ := listenLine_cases _ _ h
  · exact .inr (.inr ⟨hs, hl, ht, rfl⟩)
  · exact .inl ⟨rfl, .inr rfl⟩
  · obtain ⟨hcap, hcase⟩ := receive_cases _ _ _ hrec
    have hsucc : (s.rxCnt + 1#9).toNat = s.rxCnt.toNat + 1 := by
      have hlt : s.rxCnt.toNat < 256 := hcap
      rw [BitVec.toNat_add, BitVec.toNat_one (by decide), Nat.mod_eq_of_lt (by omega)]
    obtain ⟨hlast, rfl⟩ | ⟨hmore, rfl⟩ := hcase
    · exact .inl ⟨rfl, .inl (hsucc.trans hlast)⟩
    · exact .inr (.inl ⟨hs, hsucc, fun h56 => hmore (hsucc.symm.trans h56)⟩)

/-- The edge out of S_CHECK (R204). -/
theorem step_from_check (h : step s = .next t) (hr : s.rstNow = false) (hd : isDeviceOp s.op = true)
    (hs : s.seq = .check) : t.seq = .idle ∧ t.done = true := by
  rw [step_check (wf_of_step_next h) hr hd hs] at h
  obtain ⟨buf, -, ⟨e, -, rfl⟩ | ⟨v, r, -, -, rfl⟩⟩ := check_cases _ _ _ _ h
  · exact ⟨rfl, rfl⟩
  · cases r <;> exact ⟨rfl, rfl⟩

/-- While an exchange is in flight a step without reset keeps what belongs to the exchange (R24). -/
theorem step_keeps_exchange (h : step s = .next t) (hr : s.rstNow = false) (hb : s.seq ≠ .idle) :
    t.frame = s.frame ∧ t.opened = s.opened ∧ t.cfg = s.cfg ∧ t.rst = s.rst.tail := by
  rw [step_continues s (wf_of_step_next h) hr hb] at h
  obtain ⟨hop, harg, hopened⟩ := exec_keeps_latched h hb
  obtain ⟨hcfg, -, -, hrst⟩ := exec_environment h
  exact ⟨by rw [State.frame, hop, harg, hcfg]; rfl, hopened, hcfg, hrst⟩

theorem rstNow_of_rst_nil (h : s.rst = []) : s.rstNow = false := by rw [State.rstNow, h]; rfl

/-- A bound on the steps to the end of the exchange in flight: the request bytes still to be sent, the bytes there is
room for, and the check (R209). -/
def stepsLeft (s : State) : Nat :=
  match s.seq with
  | .idle => 0
  | .tx => s.frame.length - s.txIdx.toNat + 57
  | .rx => 57 - s.rxCnt.toNat
  | .check => 1

theorem stepsLeft_idle (hs : s.seq = .idle) : stepsLeft s = 0 := by rw [stepsLeft, hs]

theorem stepsLeft_tx (hs : s.seq = .tx) : stepsLeft s = s.frame.length - s.txIdx.toNat + 57 := by rw [stepsLeft, hs]

theorem stepsLeft_rx (hs : s.seq = .rx) : stepsLeft s = 57 - s.rxCnt.toNat := by rw [stepsLeft, hs]

theorem stepsLeft_check (hs : s.seq = .check) : stepsLeft s = 1 := by rw [stepsLeft, hs]

end Sys2Proof.Machine

namespace Sys2Proof

open Machine

variable {s : State}

/-- No exchange is longer than 255 request bytes, 56 receive steps and one check (R97, R200). -/
theorem Inv.stepsLeft_le (h : Inv s) : stepsLeft s ≤ 312 := by
  cases hs : s.seq with
  | idle => rw [stepsLeft_idle hs]; omega
  | tx =>
    obtain ⟨-, hd, -⟩ := h.busyOpen (by simp [hs])
    have hlen : s.frame.length ≤ 255 := (rom_length h.cfgWf hd s.arg).2
    rw [stepsLeft_tx hs]; omega
  | rx => rw [stepsLeft_rx hs]; omega
  | check => rw [stepsLeft_check hs]; omega

/-- With the timer running from the window's opening every step of an exchange brings its end nearer (D12). -/
theorem Inv.stepsLeft_lt {t : State} (h : Inv s) (hidle : s.cfg.idleStart = .atCaptureStart)
    (hr : s.rstNow = false) (hb : s.seq ≠ .idle) (hstep : Machine.step s = .next t) : stepsLeft t < stepsLeft s := by
  obtain ⟨-, hd, -⟩ := h.busyOpen hb
  obtain ⟨hframe, -⟩ := step_keeps_exchange hstep hr hb
  cases hs : s.seq with
  | idle => exact absurd hs hb
  | tx =>
    have hidx := h.txIdxLt hs
    obtain ⟨hrx, -⟩ | ⟨htx, hsucc, -⟩ := step_from_tx hstep hr hd hs
    · rw [stepsLeft_rx hrx, stepsLeft_tx hs]; omega
    · rw [stepsLeft_tx htx, stepsLeft_tx hs, hframe]; omega
  | rx =>
    have hcnt : s.rxCnt.toNat < 56 := h.rxCntLt hs
    obtain ⟨hcheck, -⟩ | ⟨hrx, hsucc, -⟩ | ⟨-, -, hsilent, -⟩ := step_from_rx hstep hr hd hs
    · rw [stepsLeft_check hcheck, stepsLeft_rx hs]; omega
    · rw [stepsLeft_rx hrx, stepsLeft_rx hs]; omega
    · rw [(timerRuns_iff s).mpr (.inl hidle)] at hsilent; cases hsilent
  | check =>
    obtain ⟨hseq, -⟩ := step_from_check hstep hr hd hs
    rw [stepsLeft_idle hseq, stepsLeft_check hs]; omega

/-- An exchange that comes to S_IDLE has set DONE (R191, R270). -/
theorem Inv.done_of_idle {t : State} (h : Inv s) (hr : s.rstNow = false) (hb : s.seq ≠ .idle)
    (hstep : Machine.step s = .next t) (ht : t.seq = .idle) : t.done = true := by
  obtain ⟨-, hd, -⟩ := h.busyOpen hb
  cases hs : s.seq with
  | idle => exact absurd hs hb
  | tx => obtain ⟨hseq, -⟩ | ⟨hseq, -⟩ := step_from_tx hstep hr hd hs <;> simp [ht] at hseq
  | rx => obtain ⟨hseq, -⟩ | ⟨hseq, -⟩ | ⟨hseq, -⟩ := step_from_rx hstep hr hd hs <;> simp [ht] at hseq
  | check => exact (step_from_check hstep hr hd hs).2

/-- An exchange in flight completes within the steps left to it (R209, D12). -/
theorem Inv.exchange_completes {n : Nat} (h : Inv s) (hidle : s.cfg.idleStart = .atCaptureStart) (hrst : s.rst = [])
    (hb : s.seq ≠ .idle) (hn : stepsLeft s ≤ n) :
    ∃ (k : Nat) (t : State), k ≤ n ∧ core.run k s = .next t ∧ t.seq = .idle ∧ t.done = true ∧ t.opened = true := by
  induction n generalizing s with
  | zero =>
    obtain ⟨t, hstep, -⟩ := h.step
    have := h.stepsLeft_lt hidle (rstNow_of_rst_nil hrst) hb hstep
    omega
  | succ n ih =>
    obtain ⟨t, hstep, ht⟩ := h.step
    have hr := rstNow_of_rst_nil hrst
    have hlt := h.stepsLeft_lt hidle hr hb hstep
    obtain ⟨-, hopened, hcfg, hrst'⟩ := step_keeps_exchange hstep hr hb
    by_cases hseq : t.seq = .idle
    · exact ⟨1, t, by omega, run_succ hstep, hseq, h.done_of_idle hr hb hstep hseq, hopened.trans (h.busyOpen hb).1⟩
    · obtain ⟨k, u, hk, hrun, hend⟩ := ih ht (hcfg ▸ hidle) (by rw [hrst', hrst]; rfl) hseq (by omega)
      exact ⟨k + 1, u, by omega, (run_succ hstep).trans hrun, hend⟩

/-- Settles O54: no exchange has more than 312 steps left, and every step leaves fewer. -/
theorem everyExchangeCompletes : Obligations.EveryExchangeCompletes := fun _ h hidle hrst hb =>
  h.exchange_completes hidle hrst hb h.stepsLeft_le

/-- Settles O44: the edges out of each state of SEQ. The steps that keep SEQ need the invariant for a device opcode in OP
and for room in RXBUF. -/
theorem sequencerFollowsItsStateGraph : Obligations.SequencerFollowsItsStateGraph := by
  intro s t h hr
  by_cases hnone : s.seq ≠ .idle ∧ ¬isDeviceOp s.op = true
  · obtain ⟨hb, hd⟩ := hnone
    rw [step_busy_none (wf_of_step_next h) hr hd hb] at h; cases h
    exact ⟨absurd rfl, fun hInv => absurd (hInv.busyOpen hb).2.1 hd⟩
  have hdevice (hb : s.seq ≠ .idle) : isDeviceOp s.op = true := by_contra fun hd => hnone ⟨hb, hd⟩
  cases hs : s.seq with
  | idle =>
    obtain ⟨htx, hcommand⟩ | ⟨hidle, hwhy⟩ := step_from_idle h hr hs
    · exact ⟨fun _ => .inl ⟨rfl, htx, hcommand⟩, fun _ => ⟨fun _ hseq => by simp [htx] at hseq, nofun, nofun, nofun⟩⟩
    · exact ⟨absurd hidle, fun _ => ⟨fun _ _ => hwhy, nofun, nofun, nofun⟩⟩
  | tx =>
    obtain ⟨hrx, hend⟩ | ⟨htx, hmore⟩ := step_from_tx h hr (hdevice (by simp [hs])) hs
    · exact ⟨fun _ => .inr (.inl ⟨rfl, hrx, hend⟩),
        fun _ => ⟨nofun, fun _ hseq => by simp [hrx] at hseq, nofun, nofun⟩⟩
    · exact ⟨absurd htx, fun _ => ⟨nofun, fun _ _ => hmore, nofun, nofun⟩⟩
  | rx =>
    obtain ⟨hcheck, hwhy⟩ | ⟨hrx, hsucc, hne⟩ | ⟨hrx, hsilent⟩ := step_from_rx h hr (hdevice (by simp [hs])) hs
    · exact ⟨fun _ => .inr (.inr (.inl ⟨rfl, hcheck, hwhy⟩)),
        fun _ => ⟨nofun, nofun, fun _ hseq => by simp [hcheck] at hseq, nofun⟩⟩
    · refine ⟨absurd hrx, fun hInv => ⟨nofun, nofun, fun _ _ => .inl ⟨hsucc, ?_⟩, nofun⟩⟩
      have hcnt : s.rxCnt.toNat < 56 := hInv.rxCntLt hs
      omega
    · exact ⟨absurd hrx, fun _ => ⟨nofun, nofun, fun _ _ => .inr hsilent, nofun⟩⟩
  | check =>
    obtain ⟨hidle, hdone⟩ := step_from_check h hr (hdevice (by simp [hs])) hs
    exact ⟨fun _ => .inr (.inr (.inr ⟨rfl, hidle, hdone⟩)), fun _ => ⟨nofun, nofun, nofun, fun _ => hidle⟩⟩

/-- Settles O45: a step is exec in a state with the same registers, and there each of the two records has one writer. -/
theorem engineIsHalfDuplex : Obligations.EngineIsHalfDuplex := by
  intro s t h hr
  obtain rfl | ⟨i, host, openOk, line, hx⟩ := step_exec h hr
  · exact ⟨absurd rfl, absurd rfl⟩
  · exact ⟨fun hne => (exec_txLine hx).resolve_left hne, fun hne => (exec_rxbuf hx).resolve_left hne⟩

end Sys2Proof
end

section
/-! PROOF. The runs of an exchange without reset: the request is sent, and the read stores Capture of the line's answer or
waits for ever (spec/42_sequencer.md R197 to R203, R209). -/

namespace Sys2Proof.Machine

open Claims (Received)

/-- What every run of an exchange rests on: an admissible configuration, a device command in OP, and no reset to come. -/
structure Undisturbed (s : State) : Prop where
  wf : s.cfg.wf = true
  device : isDeviceOp s.op = true
  noReset : s.rst = []

/-- The state after the rest of the request: every byte of the frame from TX_IDX on has been sent and the capture window is
open (R197, R198). -/
def requestSent (s : State) (idx : BitVec 8) : State :=
  ({ s with txIdx := idx, txLine := s.txLine ++ s.frame.drop s.txIdx.toNat } : State).openWindow

/-- The state in which a read ends: RXBUF, RX_CNT and IDLE_TMR as the read has left them, the window closed (R200, R201). -/
def readEnded (s : State) (buf : Memory) (cnt : BitVec 9) (tmr : BitVec 10) : State :=
  ({ s with rxbuf := buf, rxCnt := cnt, idleTmr := tmr } : State).closeWindow

variable {s : State}

theorem tick_of_rst_nil (h : s.rst = []) : s.tick = s := by
  cases s; cases h; rfl

namespace Undisturbed

theorem step_tx (h : Undisturbed s) (hs : s.seq = .tx) : step s = transmit s := by
  rw [Machine.step_tx h.wf (rstNow_of_rst_nil h.noReset) h.device hs, tick_of_rst_nil h.noReset]

theorem step_rx (h : Undisturbed s) (hs : s.seq = .rx) : step s = listenLine s := by
  rw [Machine.step_rx h.wf (rstNow_of_rst_nil h.noReset) h.device hs, tick_of_rst_nil h.noReset]

theorem step_check (h : Undisturbed s) (hs : s.seq = .check) :
    step s = check (minLen s.cfg s.op) (decoderOf s.op) s := by
  rw [Machine.step_check h.wf (rstNow_of_rst_nil h.noReset) h.device hs, tick_of_rst_nil h.noReset]

/-- The transmit steps put the rest of the frame on the line and open the window (R197, R198). -/
theorem run_request {s : State} {n : Nat} (h : Undisturbed s) (hs : s.seq = .tx)
    (hn : s.txIdx.toNat + n + 1 = s.frame.length) : ∃ k idx, core.run k s = .next (requestSent s idx) := by
  have hlt : s.txIdx.toNat < s.frame.length := by omega
  have hsucc := txIdx_succ_toNat h.wf h.device hlt
  have hrest : s.frame[s.txIdx.toNat] :: s.frame.drop (s.txIdx.toNat + 1) = s.frame.drop s.txIdx.toNat :=
    List.getElem_cons_drop hlt
  have hstep := (h.step_tx hs).trans (transmit_eq (List.getElem?_eq_getElem hlt))
  match n with
  | 0 =>
    rw [if_pos hn] at hstep
    rw [List.drop_of_length_le hn.ge] at hrest
    exact ⟨1, s.txIdx + 1#8, by rw [run_succ hstep, requestSent, ← hrest]; rfl⟩
  | n + 1 =>
    rw [if_neg (by omega)] at hstep
    have hnext : (s.sentByte s.frame[s.txIdx.toNat]).txIdx.toNat + n + 1 = s.frame.length := by
      rw [State.sentByte_txIdx, hsucc]; omega
    obtain ⟨k, idx, hrun⟩ :=
      run_request (s := s.sentByte s.frame[s.txIdx.toNat]) ⟨h.wf, h.device, h.noReset⟩ hs hnext
    refine ⟨k + 1, idx, ?_⟩
    have hline : s.txLine ++ s.frame.drop s.txIdx.toNat =
        s.txLine ++ [s.frame[s.txIdx.toNat]] ++ s.frame.drop (s.txIdx + 1#8).toNat := by
      rw [List.append_assoc, List.singleton_append, hsucc, hrest]
    rw [run_succ hstep, hrun, requestSent, requestSent, hline]
    rfl

/-- A silent line whose timer does not run keeps the engine where it is (R209, log 26). -/
theorem step_silent (h : Undisturbed s) (hs : s.seq = .rx) (ht : timerRuns s = false) (hl : s.line = []) :
    step s = .next s :=
  (h.step_rx hs).trans (listenLine_silent ht hl)

end Undisturbed

/-- A step that answers the same state answers it for ever. -/
theorem run_of_step_self (h : step s = .next s) (k : Nat) : core.run k s = .next s := by
  induction k with
  | zero => rfl
  | succ k ih => rw [run_succ h, ih]

/-- A stored byte is behind those received before it (R66, R199). -/
theorem received_storeByte {got : List Byte} (hgot : Received s got) (hcnt : s.rxCnt.toNat < 56) (b : Byte) :
    Received (s.storeByte b) (got ++ [b]) := by
  have hkept : Memory.readRange (s.storeByte b).rxbuf 0 s.rxCnt.toNat = some got :=
    (Memory.readRange_congr fun i hi => Memory.read_write_other _ _ _ _ (by omega)).trans hgot
  unfold Received
  rw [State.storeByte_rxCnt, rxCnt_succ_toNat hcnt]
  exact Memory.readRange_succ hkept (by simp)

/-- Nothing is captured when the stream is over or its next byte comes too late (R203). -/
theorem captureWithin_ended {cs : List RxChar} (hg : ∀ c rest, cs = c :: rest → 960 ≤ c.gap) (room : Nat) :
    captureWithin room cs = [] := by
  match room, cs, hg with
  | 0, _, _ => rfl
  | _ + 1, [], _ => rfl
  | _ + 1, c :: cs, hg => exact if_pos (hg c cs rfl)

theorem captureWithin_cons {room : Nat} {c : RxChar} (hg : c.gap < 960) (cs : List RxChar) :
    captureWithin (room + 1) (c :: cs) = c.byte :: captureWithin room cs :=
  if_neg (Nat.not_le.mpr hg)

theorem captureWithin_length_le (room : Nat) (cs : List RxChar) : (captureWithin room cs).length ≤ room := by
  induction room, cs using captureWithin.induct with
  | case1 | case2 => simp [captureWithin]
  | case3 room c cs hg => simp [captureWithin, hg]
  | case4 room c cs hg ih => rw [captureWithin_cons (Nat.not_le.mp hg)]; exact Nat.succ_le_succ ih

/-- Capture stores at most 56 bytes (R200, R203). -/
theorem capture_length_le {idle : IdleStart} {cs : List RxChar} {buf : List Byte} (h : capture idle cs = some buf) :
    buf.length ≤ 56 := by
  unfold capture at h
  split at h <;> cases h
  · exact captureWithin_length_le 56 _
  · exact Nat.succ_le_succ (captureWithin_length_le 55 _)

/-- A step in S_RX that stores a byte below the 56th: the read goes on with the timer running, and its end is an end of the
read from s (R199, R201). -/
theorem Undisturbed.step_stores {c : RxChar} {rest : List RxChar} {got : List Byte} (h : Undisturbed s) (hs : s.seq = .rx)
    (hcnt : s.rxCnt.toNat < 55) (hl : s.line = c :: rest) (hg : timerRuns s = true → c.gap < 960)
    (hgot : Received s got) :
    ∃ u, step s = .next u ∧ Undisturbed u ∧ u.seq = .rx ∧ u.line = rest ∧ timerRuns u = true ∧
      u.rxCnt.toNat = s.rxCnt.toNat + 1 ∧ Received u (got ++ [c.byte]) ∧
      ∀ buf cnt tmr, readEnded u buf cnt tmr = readEnded s buf cnt tmr := by
  have hsucc : (s.rxCnt + 1#9).toNat = s.rxCnt.toNat + 1 := rxCnt_succ_toNat (Nat.lt_succ_of_lt hcnt)
  have hstep := (h.step_rx hs).trans (listenLine_stores (Nat.lt_succ_of_lt hcnt) hl hg)
  rw [if_neg hcnt.ne] at hstep
  refine ⟨_, hstep, ⟨h.wf, h.device, h.noReset⟩, hs, rfl, ?_, hsucc, ?_, fun _ _ _ => rfl⟩
  · exact (timerRuns_iff _).mpr (.inr (hsucc ▸ Nat.succ_pos _))
  · exact received_storeByte (s := { s with line := rest }) hgot (Nat.lt_succ_of_lt hcnt) c.byte

/-- While the timer runs the receive steps store what Capture still has room for, behind the bytes received so far, and end
the read (R199 to R203). -/
theorem Undisturbed.run_read {s : State} {room : Nat} {got : List Byte} (h : Undisturbed s) (hs : s.seq = .rx)
    (ht : timerRuns s = true) (hroom : s.rxCnt.toNat + room + 1 = 56) (hgot : Received s got) :
    ∃ k buf cnt tmr, core.run k s = .next (readEnded s buf cnt tmr) ∧
      Received (readEnded s buf cnt tmr) (got ++ captureWithin (room + 1) s.line) := by
  by_cases hgap : ∀ c rest, s.line = c :: rest → 960 ≤ c.gap
  · have hstep := (h.step_rx hs).trans (listenLine_expires ht hgap)
    refine ⟨1, s.rxbuf, s.rxCnt, 960#10, run_succ hstep, ?_⟩
    rw [captureWithin_ended hgap, List.append_nil]
    exact hgot
  push Not at hgap
  obtain ⟨c, rest, hl, hg⟩ := hgap
  rw [hl, captureWithin_cons hg, ← List.singleton_append, ← List.append_assoc]
  match room with
  | 0 =>
    have hcnt : s.rxCnt.toNat < 56 := by omega
    have hstep := (h.step_rx hs).trans (listenLine_stores hcnt hl fun _ => hg)
    rw [if_pos (by omega)] at hstep
    refine ⟨1, _, _, 0#10, run_succ hstep, ?_⟩
    rw [captureWithin, List.append_nil]
    exact received_storeByte (s := { s with line := rest }) hgot hcnt c.byte
  | room + 1 =>
    obtain ⟨u, hstep, hu, hus, rfl, hut, hcnt, hstored, hended⟩ := h.step_stores hs (by omega) hl (fun _ => hg) hgot
    obtain ⟨k, buf, cnt, tmr, hrun, hend⟩ := hu.run_read (room := room) hus hut (by omega) hstored
    rw [hended] at hrun hend
    exact ⟨k + 1, buf, cnt, tmr, (run_succ hstep).trans hrun, hend⟩

/-- From the opening of the window the receive steps store Capture of the line's answer and end the read (R203). -/
theorem Undisturbed.run_capture {bytes : List Byte} (h : Undisturbed s) (hs : s.seq = .rx) (hcnt : s.rxCnt = 0#9)
    (hcap : capture s.cfg.idleStart s.line = some bytes) :
    ∃ k buf cnt tmr, core.run k s = .next (readEnded s buf cnt tmr) ∧ Received (readEnded s buf cnt tmr) bytes := by
  have h0 : s.rxCnt.toNat = 0 := by rw [hcnt]; rfl
  have hgot : Received s [] := by rw [Received, h0]; rfl
  cases hidle : s.cfg.idleStart with
  | atCaptureStart =>
    rw [hidle] at hcap; cases hcap
    exact h.run_read (room := 55) hs ((timerRuns_iff s).mpr (.inl hidle)) (by omega) hgot
  | atFirstByte =>
    cases hl : s.line with
    | nil => rw [hidle, hl] at hcap; cases hcap
    | cons c rest =>
      rw [hidle, hl] at hcap; cases hcap
      have hno : ¬timerRuns s = true := by simp [timerRuns_iff, hidle, h0]
      obtain ⟨u, hstep, hu, hus, rfl, hut, hsucc, hstored, hended⟩ :=
        h.step_stores hs (by omega) hl (fun ht => absurd ht hno) hgot
      obtain ⟨k, buf, cnt, tmr, hrun, hend⟩ := hu.run_read (room := 54) hus hut (by omega) hstored
      rw [hended] at hrun hend
      exact ⟨k + 1, buf, cnt, tmr, (run_succ hstep).trans hrun, hend⟩

end Sys2Proof.Machine

namespace Sys2Proof

open Machine

/-- Settles O53: `run_capture`, and the length of what Capture takes. -/
theorem readStoresTheCapturedBytes : Obligations.ReadStoresTheCapturedBytes := by
  intro s bytes hw hs hcnt hrst hd hcap
  obtain ⟨k, buf, cnt, tmr, hrun, hend⟩ := Undisturbed.run_capture ⟨hw, hd, hrst⟩ hs hcnt hcap
  exact ⟨k, _, hrun, rfl, hend, capture_length_le hcap⟩

/-- Settles O55: the step on a silent line answers the same state. -/
theorem silentLineHangsWithoutTheTimer : Obligations.SilentLineHangsWithoutTheTimer := by
  intro s k hw hidle hrst hs hcnt hl hd
  have ht : ¬timerRuns s = true := by simp [timerRuns_iff, hidle, hcnt]
  exact run_of_step_self (Undisturbed.step_silent ⟨hw, hd, hrst⟩ hs (by simpa using ht) hl) k

end Sys2Proof
end

section
/-! PROOF. A command as one function of OPENED and its environment, and when it has an effect (spec/42_sequencer.md R203,
R207 to R209). -/

namespace Sys2Proof.Machine

variable {cfg : Config} {opened : Bool} {c : Command}

theorem ne_of_isDeviceOp {op op' : Opcode} (hd : isDeviceOp op = true) (hn : isDeviceOp op' = false) : op ≠ op' :=
  fun he => by rw [he, hn] at hd; cases hd

/-- Validate and the decoder always answer: no decoder reads beyond a buffer that validates (R66, R205). -/
theorem conclude_isSome (hw : cfg.wf = true) {op : Opcode} (hd : isDeviceOp op = true) (buf : List Byte) :
    ∃ r, conclude cfg op buf = some r := by
  unfold conclude
  split
  · exact ⟨_, rfl⟩
  · next v hv =>
    obtain ⟨-, -, -, -, -, -, hlen⟩ := validate_ok hv
    exact decoderOf_isSome cfg hw op hd buf hlen

/-- The one read that never ends (R209). -/
theorem capture_eq_none {idle : IdleStart} {cs : List RxChar} :
    capture idle cs = none ↔ idle = .atFirstByte ∧ cs = [] := by
  cases idle <;> cases cs <;> simp [capture]

/-- What an exchange with an effect consists of: the bytes captured and what Validate and the decoder make of them (R207). -/
theorem exchange_eq_some {op : Opcode} {v : Byte} {cs : List RxChar} {e : Effect} :
    exchange cfg op v cs = some e ↔ ∃ buf r, capture cfg.idleStart cs = some buf ∧ conclude cfg op buf = some r ∧
      e = Effect.ofExchange (rom cfg op v) r := by
  unfold exchange
  cases capture cfg.idleStart cs with
  | none => simp
  | some buf => simp [eq_comm]

/-- Only the read that never ends leaves an exchange without an effect (R207, R209). -/
theorem exchange_isSome_iff (hw : cfg.wf = true) {op : Opcode} (hd : isDeviceOp op = true) {v : Byte} {cs : List RxChar} :
    (∃ e, exchange cfg op v cs = some e) ↔ ¬(cfg.idleStart = .atFirstByte ∧ cs = []) := by
  rw [← capture_eq_none]
  constructor
  · rintro ⟨e, he⟩ hnone
    obtain ⟨buf, r, hcap, -⟩ := exchange_eq_some.mp he
    rw [hnone] at hcap; cases hcap
  · intro hsome
    obtain ⟨buf, hcap⟩ := Option.ne_none_iff_exists'.mp hsome
    obtain ⟨r, hr⟩ := conclude_isSome hw hd buf
    exact ⟨_, exchange_eq_some.mpr ⟨buf, r, hcap, hr, rfl⟩⟩

/-- A device command by the lines 5 to 7 of the dispatch (R195). -/
theorem commandEffect_device (hd : isDeviceOp c.op = true) :
    commandEffect cfg opened c =
      if opened = false then some { opened := false, sent := [], status := .error .notOpened, result := none }
      else if argInRange c.op c.arg = false then
        some { opened := true, sent := [], status := .error .unknown, result := none }
      else exchange cfg c.op c.arg c.stream := by
  rw [commandEffect, if_neg (ne_of_isDeviceOp hd rfl), if_neg (ne_of_isDeviceOp hd rfl), if_neg (ne_of_isDeviceOp hd rfl),
    if_neg (by simp [hd])]

/-- A command without an exchange always has an effect (R195 lines 1 to 4). -/
theorem commandEffect_isSome_of_not_device (hd : isDeviceOp c.op = false) : ∃ e, commandEffect cfg opened c = some e := by
  rw [commandEffect, if_pos hd]
  split_ifs <;> exact ⟨_, rfl⟩

end Sys2Proof.Machine

namespace Sys2Proof

open Machine

/-- Settles O51: an exchange has an effect exactly when its read ends, every other command always. -/
theorem everyCommandHasAnEffect : Obligations.EveryCommandHasAnEffect := by
  intro cfg opened c hw
  cases hd : isDeviceOp c.op with
  | false => simp [commandEffect_isSome_of_not_device hd]
  | true =>
    rw [commandEffect_device hd]
    cases opened with
    | false => simp
    | true =>
      cases harg : argInRange c.op c.arg with
      | false => simp
      | true => simpa using exchange_isSome_iff hw hd

end Sys2Proof
end

section
/-! PROOF. A command presented in S_IDLE runs to the effect of its one function, and a sequence of commands to the fold of
their effects (spec/42_sequencer.md R207, R208). -/

namespace Sys2Proof.Machine

open Claims (Received)

variable {s t : State} {opened : Bool} {c : Command} {rest : List Command} {sent : List Byte}

/-- The host reads the result of a command of its own kind from the registers it was written to (R36). -/
theorem hostResult_setResult {r : Result} (hown : OwnsResult s.op r) (hlen : ∀ l, r = .str l → l.length ≤ 25) :
    hostResult (s.setResult r).complete = some r := by
  cases r with
  | unit => rcases hown with h | h <;> simp [hostResult, boolValid, byteValid, strValid, sampleValid, h]
  | bool b => rcases hown with h | h | h <;> simp [hostResult, boolValid, h]
  | byte b => rcases hown with h | h <;> simp [hostResult, boolValid, byteValid, h]
  | str l =>
    have hl := hlen l rfl
    have hmod : l.length % 32 = l.length := Nat.mod_eq_of_lt (by omega)
    rcases hown with h | h <;>
      simp [hostResult, boolValid, byteValid, strValid, h, hmod, putStr_take _ _ hl]
  | sample c a => simp [hostResult, boolValid, byteValid, strValid, sampleValid, show s.op = 0xA#4 from hown]

theorem decDigits_length_le (fuel n : Nat) (acc : List Byte) : (decDigits fuel n acc).length ≤ fuel + acc.length := by
  induction fuel generalizing n acc with
  | zero => simp [decDigits]
  | succ fuel ih =>
    unfold decDigits
    split
    · omega
    · exact (ih _ _).trans (by simp; omega)

theorem dec_length_le (f : Half) : (dec f).length ≤ 5 := decDigits_length_le 5 f.toNat []

theorem flatMap_dec_length_le (fields : List Half) : (fields.flatMap dec).length ≤ 5 * fields.length := by
  induction fields with
  | nil => simp
  | cons f fs ih =>
    have := dec_length_le f
    simp only [List.flatMap_cons, List.length_append, List.length_cons]; omega

theorem serialString_length_le (fields : List Half) (h : fields.length = 5) : (serialString fields).length ≤ 25 := by
  have := flatMap_dec_length_le fields
  unfold serialString
  split
  · simp
  · omega

theorem be16s_length {buf : List Byte} {a n : Nat} {fs : List Half} (h : be16s buf a n = some fs) : fs.length = n := by
  induction n generalizing a fs with
  | zero => cases h; rfl
  | succ n ih =>
    simp only [be16s] at h
    split at h
    · next hfs => cases h; rw [List.length_cons, ih hfs]
    · cases h

/-- A decoded string fits RES_STR (R33). -/
theorem decoderOf_str_length_le {op : Opcode} {buf l : List Byte} (h : decoderOf op buf = some (.ok (.str l))) :
    l.length ≤ 25 := by
  rcases decoderOf_ownsResult h with rfl | rfl
  · obtain ⟨fields, hfields, hl⟩ := Option.map_eq_some_iff.mp h
    cases hl
    exact serialString_length_le fields (be16s_length hfields)
  · obtain ⟨bytes, hbytes, hl⟩ := Option.map_eq_some_iff.mp h
    cases hl
    rw [bytesAt_length hbytes]; omega

/-- After an error no result is readable but that of OPEN (R36). -/
theorem hostResult_of_error {e : ErrorKind} (hst : s.status = .error e) (hop : s.op ≠ 0x1#4) : hostResult s = none := by
  obtain ⟨-, -, -, -, hnone⟩ := noResultIsReadableWithoutSuccess s (.inr (by simp [hst]))
  exact (hnone (.inr (.inl hop))).2

/-- In the run of the command c, presented in s before the commands `rest`, the state t holds c, OPENED is `opened` and the
bytes `sent` have been put on the line. -/
structure Carries (s : State) (c : Command) (rest : List Command) (opened : Bool) (sent : List Byte) (t : State) :
    Prop where
  opened : t.opened = opened
  sent : t.txLine = s.txLine ++ sent
  op : t.op = c.op
  arg : t.arg = c.arg
  host : t.host = rest
  rst : t.rst = []
  cfg : t.cfg = s.cfg

/-- In the state t the command c has completed with the effect e (R208). -/
structure Completes (s : State) (c : Command) (rest : List Command) (e : Effect) (t : State) : Prop
    extends Carries s c rest e.opened e.sent t where
  seq : t.seq = .idle
  done : t.done = true
  status : t.status = e.status
  result : hostResult t = e.result

/-- The command accepted in s (R193). -/
def accepted (s : State) (c : Command) (rest : List Command) : State := (s.present c rest).latch c.op c.arg

theorem carries_accepted (hrst : s.rst = []) : Carries s c rest s.opened [] (accepted s c rest) :=
  ⟨rfl, (List.append_nil _).symm, rfl, rfl, rfl, hrst, rfl⟩

namespace Carries

theorem setOpened (h : Carries s c rest opened sent t) (b : Bool) : Carries s c rest b sent (t.setOpened b) :=
  { h with opened := rfl }

/-- Completion with an error (R270). -/
theorem raise (h : Carries s c rest opened sent t) (e : ErrorKind) (hop : c.op ≠ 0x1#4) :
    Completes s c rest { opened, sent, status := .error e, result := none } (t.raise e) :=
  { h with seq := rfl, done := rfl, status := rfl, result := hostResult_of_error rfl (h.op ▸ hop) }

/-- Completion with a result of the command's own kind (R270). -/
theorem complete (h : Carries s c rest opened sent t) {r : Result} (hown : OwnsResult c.op r)
    (hlen : ∀ l, r = .str l → l.length ≤ 25) :
    Completes s c rest { opened, sent, status := .ok, result := some r } (t.setResult r).complete where
  opened := by simp [h.opened]
  sent := by simp [h.sent]
  op := by simp [h.op]
  arg := by simp [h.arg]
  host := by simp [h.host]
  rst := by simp [h.rst]
  cfg := by simp [h.cfg]
  seq := rfl
  done := rfl
  status := rfl
  result := hostResult_setResult (h.op.symm ▸ hown) hlen

/-- OPEN reports its failure in RES_BOOL too (R36, R132). -/
theorem openFailed (h : Carries s c rest opened sent t) (hop : c.op = 0x1#4) (b : Bool) :
    Completes s c rest { opened, sent, status := .error .unknown, result := some (.bool b) }
      ((t.setResult (.bool b)).raise .unknown) :=
  { h with
    seq := rfl
    done := rfl
    status := rfl
    result := by simp [hostResult, boolValid, h.op, hop] }

/-- The end of an exchange, by what Validate and the decoder make of its bytes (R204, R207). -/
theorem finish (h : Carries s c rest true sent t) (hd : isDeviceOp c.op = true) {cfg : Config} {buf : List Byte}
    {r : Except ErrorKind Result} (hr : conclude cfg c.op buf = some r) :
    Completes s c rest (Effect.ofExchange sent r) (finish r t) := by
  cases r with
  | error e => exact h.raise e (ne_of_isDeviceOp hd rfl)
  | ok r =>
    have hdec : decoderOf c.op buf = some (.ok r) := by
      unfold conclude at hr
      split at hr
      · cases hr
      · exact hr
    exact h.complete (decoderOf_ownsResult hdec) fun l hl => decoderOf_str_length_le (hl ▸ hdec)

end Carries

/-- The commands without an exchange complete at their acceptance with their effect (R195 lines 1 to 4). -/
theorem effectOf_completes_with {e : Effect} (hrst : s.rst = []) (hd : isDeviceOp c.op = false)
    (he : commandEffect s.cfg s.opened c = some e) : Completes s c rest e (effectOf c.op (accepted s c rest)) := by
  have haccepted : Carries s c rest s.opened [] (accepted s c rest) := carries_accepted hrst
  rcases effectOf_cases c.op (accepted s c rest) with ⟨hop, hf⟩ | ⟨hop, hf⟩ | ⟨hop, hf⟩ | ⟨h1, h2, h3, hf⟩ <;> rw [hf]
  · have hopenOk : (accepted s c rest).openOk = c.openOk := rfl
    rw [commandEffect, if_pos hop] at he
    rw [openEffect_eq, hopenOk]
    cases he
    cases c.openOk with
    | true => exact (haccepted.setOpened true).complete (.inl hop) nofun
    | false => exact (haccepted.setOpened false).openFailed hop false
  · rw [commandEffect, if_neg (by simp [hop]), if_pos hop] at he
    cases he
    exact (haccepted.setOpened false).complete (.inr (.inl hop)) nofun
  · rw [commandEffect, if_neg (by simp [hop]), if_neg (by simp [hop]), if_pos hop] at he
    cases he
    exact haccepted.complete (r := .bool s.opened) (.inr (.inr hop)) nofun
  · rw [commandEffect, if_neg h1, if_neg h2, if_neg h3, if_pos hd] at he
    cases he
    exact haccepted.raise .unknown h1

/-- The check step is Validate and the decoder on the bytes received (R204, R207). -/
theorem check_concludes {buf : List Byte} {r : Except ErrorKind Result} (hbuf : Received s buf)
    (hr : conclude s.cfg s.op buf = some r) : check (minLen s.cfg s.op) (decoderOf s.op) s = .next (finish r s) := by
  unfold conclude at hr
  split at hr
  · next e he => cases hr; exact check_invalid _ hbuf he
  · next v hv =>
    unfold Received at hbuf
    simp only [check, hbuf, hv, hr]

/-- An exchange from its start to its end: request, read and check (R207). -/
theorem Undisturbed.run_exchange {buf : List Byte} {r : Except ErrorKind Result} (h : Undisturbed s) (hs : s.seq = .tx)
    (hidx : s.txIdx = 0#8) (hcap : capture s.cfg.idleStart s.line = some buf) (hr : conclude s.cfg s.op buf = some r) :
    ∃ k idx mem cnt tmr, core.run k s = .next (finish r (readEnded (requestSent s idx) mem cnt tmr)) := by
  obtain ⟨hlen, -⟩ := rom_length h.wf h.device s.arg
  have hn : s.txIdx.toNat + (s.frame.length - 1) + 1 = s.frame.length := by
    rw [hidx, State.frame, BitVec.toNat_ofNat]; omega
  obtain ⟨k, idx, hsent⟩ := h.run_request hs hn
  have hu : Undisturbed (requestSent s idx) := ⟨h.wf, h.device, h.noReset⟩
  obtain ⟨j, mem, cnt, tmr, hread, hreceived⟩ := hu.run_capture rfl rfl hcap
  have hv : Undisturbed (readEnded (requestSent s idx) mem cnt tmr) := ⟨h.wf, h.device, h.noReset⟩
  have hcheck := (hv.step_check rfl).trans (check_concludes hreceived hr)
  refine ⟨k + (j + 1), idx, mem, cnt, tmr, ?_⟩
  rw [run_add hsent, run_add hread, run_succ hcheck]
  rfl

/-- A device command on an open handle with its argument in range runs through its exchange (R196, R207). -/
theorem exchange_completes_with {e : Effect} (hw : s.cfg.wf = true) (hrst : s.rst = []) (ho : s.opened = true)
    (hd : isDeviceOp c.op = true) (he : exchange s.cfg c.op c.arg c.stream = some e) :
    ∃ k t, core.run k (accepted s c rest).startExchange = .next t ∧ Completes s c rest e t := by
  obtain ⟨buf, r, hcap, hr, rfl⟩ := exchange_eq_some.mp he
  have hu : Undisturbed (accepted s c rest).startExchange := ⟨hw, hd, hrst⟩
  obtain ⟨k, idx, mem, cnt, tmr, hrun⟩ := hu.run_exchange rfl rfl hcap hr
  have hread : Carries s c rest true (rom s.cfg c.op c.arg)
      (readEnded (requestSent (accepted s c rest).startExchange idx) mem cnt tmr) :=
    ⟨ho, rfl, rfl, rfl, rfl, hrst, rfl⟩
  exact ⟨k, _, hrun, hread.finish hd hr⟩

/-- A command presented in S_IDLE runs to its effect (R208). -/
theorem run_completes_with {e : Effect} (hw : s.cfg.wf = true) (hs : s.seq = .idle) (hrst : s.rst = [])
    (hh : s.host = c :: rest) (he : commandEffect s.cfg s.opened c = some e) :
    ∃ k t, core.run k s = .next t ∧ Completes s c rest e t := by
  have hstep := step_accepts s c rest hw (rstNow_of_rst_nil hrst) hs hh
  rw [tick_of_rst_nil hrst, exec_idle _ (s.present c rest) hs, opcode_decodeOp, operand_decodeOp] at hstep
  have haccepted : Carries s c rest s.opened [] (accepted s c rest) := carries_accepted hrst
  cases hd : isDeviceOp c.op with
  | false =>
    rw [if_neg (by simp [hd])] at hstep
    exact ⟨1, _, run_succ hstep, effectOf_completes_with hrst hd he⟩
  | true =>
    rw [if_pos hd] at hstep
    rw [commandEffect_device hd] at he
    rcases acceptDevice_cases c.op c.arg (argInRange c.op c.arg) (s.present c rest) with
      ⟨ho, hf⟩ | ⟨ho, harg, hf⟩ | ⟨ho, harg, hf⟩ <;>
      rw [State.present_opened] at ho <;> rw [ho] at he haccepted <;> rw [hf] at hstep
    · rw [if_pos rfl] at he; cases he
      exact ⟨1, _, run_succ hstep, haccepted.raise .notOpened (ne_of_isDeviceOp hd rfl)⟩
    · rw [if_neg (by decide), if_pos harg] at he; cases he
      exact ⟨1, _, run_succ hstep, haccepted.raise .unknown (ne_of_isDeviceOp hd rfl)⟩
    · rw [if_neg (by decide), if_neg (by simp [harg])] at he
      obtain ⟨k, t, hrun, hend⟩ := exchange_completes_with hw hrst ho hd he
      exact ⟨k + 1, t, (run_succ hstep).trans hrun, hend⟩

/-- A sequence of commands runs to the fold of their effects; the last state is that of the last command (R208). -/
theorem run_commands {s : State} {es : List Effect} (hw : s.cfg.wf = true) (hs : s.seq = .idle) (hrst : s.rst = [])
    (he : commandEffects s.cfg s.opened s.host = some es) :
    ∃ k t, core.run k s = .next t ∧ t.seq = .idle ∧ t.host = [] ∧
      t.txLine = s.txLine ++ (es.map Effect.sent).flatten ∧
      t.opened = (es.getLast?.map Effect.opened).getD s.opened ∧
      (es = [] → t = s) ∧
      ∀ e, es.getLast? = some e → t.done = true ∧ t.status = e.status ∧ hostResult t = e.result := by
  induction hh : s.host generalizing s es with
  | nil =>
    rw [hh] at he; cases he
    exact ⟨0, s, rfl, hs, hh, (List.append_nil _).symm, rfl, fun _ => rfl, nofun⟩
  | cons c rest ih =>
    rw [hh, commandEffects] at he
    split at he
    · cases he
    next e hce =>
    obtain ⟨es, hes, rfl⟩ := Option.map_eq_some_iff.mp he
    obtain ⟨k, t, hrun, ht⟩ := run_completes_with hw hs hrst hh hce
    obtain ⟨j, u, hrun', hseq, hhost, hline, hopened, hnil, hlast⟩ :=
      ih (s := t) (ht.cfg ▸ hw) ht.seq ht.rst (by rw [ht.cfg, ht.opened, ht.host]; exact hes) ht.host
    refine ⟨k + j, u, (run_add hrun).trans hrun', hseq, hhost, ?_, ?_, nofun, ?_⟩
    · rw [hline, ht.sent, List.append_assoc]; rfl
    · rw [hopened, ht.opened, List.getLast?_cons]
      cases es.getLast? <;> rfl
    · intro d hd
      rw [List.getLast?_cons, Option.some_inj] at hd
      cases hes : es.getLast? with
      | none =>
        rw [hes] at hd; cases hd
        rw [hnil (List.getLast?_eq_none_iff.mp hes)]
        exact ⟨ht.done, ht.status, ht.result⟩
      | some d' =>
        rw [hes] at hd; cases hd
        exact hlast _ hes

end Sys2Proof.Machine

namespace Sys2Proof

open Machine

/-- Settles O50: the run of `run_completes_with`, its end field by field. -/
theorem commandRunsToItsEffect : Obligations.CommandRunsToItsEffect := by
  intro s c rest e hw hs hrst hh he
  obtain ⟨k, t, hrun, ht⟩ := run_completes_with hw hs hrst hh he
  exact ⟨k, t, hrun, ht.seq, ht.done, ht.opened, ht.sent, ht.status, ht.result, ht.op, ht.arg, ht.host, ht.rst, ht.cfg⟩

/-- Settles O52: by induction on the commands, in `run_commands`. -/
theorem commandSequenceIsAFold : Obligations.CommandSequenceIsAFold := by
  intro s es hw hs hrst he
  obtain ⟨k, t, hrun, hseq, hhost, hline, hopened, -, hlast⟩ := run_commands hw hs hrst he
  exact ⟨k, t, hrun, hseq, hhost, hline, hopened, hlast⟩

end Sys2Proof
end

section
/-! PROOF. SETUP_CALIB_COEFF's argument test at acceptance (spec/43_operations.md R230, 30_encoding.md R114). -/

namespace Sys2Proof.Machine

/-- An open handle rejects an argument that fails its test (R195 line 6). -/
theorem acceptDevice_badArgument {s : State} (ho : s.opened = true) (op : Opcode) (arg : Byte) :
    acceptDevice op arg false s = (s.latch op arg).raise .unknown := by
  simp [acceptDevice, ho]

theorem calibInRange_eq_false_iff (v : Byte) : calibInRange v = false ↔ v.toNat < 10 ∨ 250 < v.toNat := by
  rw [calibInRange, Bool.and_eq_false_iff, decide_eq_false_iff_not, decide_eq_false_iff_not, Nat.not_le, Nat.not_le]

end Sys2Proof.Machine

namespace Sys2Proof

open Machine

/-- Settles O14: v fails the range test, so the dispatch of an open handle ends at its line 6. -/
theorem calibrationArgumentOutOfRangeIsRejected : Obligations.CalibrationArgumentOutOfRangeIsRejected := by
  intro v s hs ho hv
  have harg : argInRange (Instr.setupCalibCoeff v).opcode v = false := (calibInRange_eq_false_iff v).mpr hv
  rw [exec_device_idle hs rfl, Instr.operand, harg, acceptDevice_badArgument ho, hs]
  rfl

end Sys2Proof
end

section
/-! PROOF. `Dec` as the library's base-10 digits, most significant first, in ASCII (spec/43_operations.md R221). -/

namespace Sys2Proof.Machine

open Claims (numeralValue)

theorem asciiDigit_toNat {d : Nat} (h : d < 10) : (asciiDigit d).toNat = 0x30 + d := by
  rw [asciiDigit, BitVec.toNat_ofNat]; omega

/-- With fuel for all its digits, `decDigits` writes the whole numeral of n before `acc`. -/
theorem decDigits_eq_digits {fuel n : Nat} (h : n < 10 ^ fuel) (acc : List Byte) :
    decDigits fuel n acc = ((Nat.digits 10 n).map asciiDigit).reverse ++ acc := by
  induction fuel generalizing n acc with
  | zero =>
    obtain rfl : n = 0 := by simpa using h
    rfl
  | succ fuel ih =>
    unfold decDigits
    split
    · next h0 => rw [h0, Nat.digits_zero]; rfl
    · next h0 =>
      have hdiv : n / 10 < 10 ^ fuel := by rw [pow_succ] at h; omega
      rw [ih hdiv, Nat.digits_def' (by omega) (Nat.pos_of_ne_zero h0)]
      simp

theorem dec_eq_digits (f : Half) : dec f = ((Nat.digits 10 f.toNat).map asciiDigit).reverse := by
  rw [dec, decDigits_eq_digits (by have := f.isLt; omega), List.append_nil]

/-- The digits written most significant first have the value of the library's, least significant first. -/
theorem numeralValue_reverse_asciiDigits {ds : List Nat} (h : ∀ d ∈ ds, d < 10) :
    numeralValue (ds.map asciiDigit).reverse = Nat.ofDigits 10 ds := by
  induction ds with
  | nil => rfl
  | cons d ds ih =>
    obtain ⟨hd, hds⟩ := List.forall_mem_cons.mp h
    have htail := ih hds
    rw [numeralValue] at htail
    rw [numeralValue, List.map_cons, List.reverse_cons, List.foldl_append, htail, Nat.ofDigits_cons]
    simp only [List.foldl_cons, List.foldl_nil, asciiDigit_toNat hd]
    omega

theorem numeralValue_dec (f : Half) : numeralValue (dec f) = f.toNat := by
  rw [dec_eq_digits, numeralValue_reverse_asciiDigits fun d hd => Nat.digits_lt_base (by omega) hd, Nat.ofDigits_digits]

/-- Each byte of a numeral is an ASCII digit. -/
theorem mem_dec {f : Half} {b : Byte} (h : b ∈ dec f) : 0x30 ≤ b.toNat ∧ b.toNat ≤ 0x39 := by
  rw [dec_eq_digits, List.mem_reverse, List.mem_map] at h
  obtain ⟨d, hd, rfl⟩ := h
  have hlt : d < 10 := Nat.digits_lt_base (by omega) hd
  rw [asciiDigit_toNat hlt]
  omega

theorem dec_eq_nil_iff (f : Half) : dec f = [] ↔ f = 0#16 := by
  rw [dec_eq_digits, List.reverse_eq_nil_iff, List.map_eq_nil_iff, Nat.digits_eq_nil_iff_eq_zero, ← BitVec.toNat_inj]
  rfl

/-- The first byte is the last of the library's digits, which is not 0. -/
theorem dec_head?_ne_zero (f : Half) : (dec f).head? ≠ some 0x30#8 := by
  rw [dec_eq_digits, List.head?_reverse, List.getLast?_map]
  intro h
  obtain ⟨d, hd, hzero⟩ := Option.map_eq_some_iff.mp h
  obtain ⟨hne, hlast⟩ := List.mem_getLast?_eq_getLast hd
  have hlt : d < 10 := Nat.digits_lt_base (by omega) (List.mem_of_getLast? hd)
  have hd0 : 0x30 + d = 0x30 := by rw [← asciiDigit_toNat hlt, hzero]; rfl
  have hpos : f.toNat ≠ 0 := Nat.digits_ne_nil_iff_ne_zero.mp hne
  exact Nat.getLast_digit_ne_zero 10 hpos (by omega)

end Sys2Proof.Machine

namespace Sys2Proof

open Machine

/-- Settles O29: clause by clause from `dec_eq_digits`. -/
theorem decimalNumeralOfAField : Obligations.DecimalNumeralOfAField := fun f =>
  ⟨numeralValue_dec f, fun _ => mem_dec, dec_head?_ne_zero f, dec_length_le f, dec_eq_nil_iff f⟩

end Sys2Proof
end

section
/-! PROOF. Which indices the field readers and the decoders look at (spec/43_operations.md R220, 30_encoding.md R99). -/

namespace Sys2Proof.Machine

/-- The buffers agree on the n indices from a on. -/
def AgreeOn (buf buf' : List Byte) (a n : Nat) : Prop := ∀ k, a ≤ k → k < a + n → buf[k]? = buf'[k]?

namespace AgreeOn

variable {buf buf' : List Byte} {a n : Nat}

/-- Agreement on the rest of the range, past its first m indices. -/
theorem drop {m : Nat} (h : AgreeOn buf buf' a (m + n)) : AgreeOn buf buf' (a + m) n :=
  fun k hlo hhi => h k (by omega) (by omega)

theorem byteAt (h : AgreeOn buf buf' a (n + 1)) : Machine.byteAt buf a = Machine.byteAt buf' a :=
  h a (Nat.le_refl a) (by omega)

theorem be16 (h : AgreeOn buf buf' a (n + 2)) : Machine.be16 buf a = Machine.be16 buf' a := by
  have hlo : AgreeOn buf buf' (a + 1) (n + 1) := drop (by rwa [Nat.add_comm])
  rw [Machine.be16, Machine.be16, h.byteAt, hlo.byteAt]

theorem bytesAt (h : AgreeOn buf buf' a n) : Machine.bytesAt buf a n = Machine.bytesAt buf' a n := by
  induction n generalizing a with
  | zero => rfl
  | succ n ih => rw [Machine.bytesAt, Machine.bytesAt, h.byteAt, ih (drop (by rwa [Nat.add_comm]))]

theorem be16s (h : AgreeOn buf buf' a (2 * n)) : Machine.be16s buf a n = Machine.be16s buf' a n := by
  induction n generalizing a with
  | zero => rfl
  | succ n ih => rw [Machine.be16s, Machine.be16s, h.be16, ih (drop (by rwa [Nat.add_comm]))]

end AgreeOn

end Sys2Proof.Machine

namespace Sys2Proof

open Machine

/-- Settles O30: each decoder is a function of what its field readers answer, and they read inside these indices. -/
theorem decodersReadOnlyTheirFields : Obligations.DecodersReadOnlyTheirFields := by
  intro op buf buf' h
  have hagree (n : Nat) (hn : n + 4 ≤ minLen Config.default op) : AgreeOn buf buf' Config.dataOff n :=
    fun k hlo hhi => h k hlo (by simp only [Config.dataOff] at hhi; omega)
  unfold decoderOf
  split
  · rw [decodeSerialNo, decodeSerialNo, (hagree (2 * 5) (by decide)).be16s]
  · rw [decodeSwVersion, decodeSwVersion, (hagree 13 (by decide)).bytesAt]
  · rw [decodeCalibRead, decodeCalibRead, (hagree 1 (by decide)).byteAt]
  · rw [decodeCalibEcho, decodeCalibEcho, (hagree 1 (by decide)).byteAt]
  · rw [decodeMeasureOpened, decodeMeasureOpened, (hagree 1 (by decide)).byteAt]
  · rw [decodeMeasureClosed, decodeMeasureClosed, (hagree 1 (by decide)).byteAt]
  · have hall := hagree 13 (by decide)
    have hcounts : AgreeOn buf buf' Config.dataOff (2 * 6) := hagree 12 (by decide)
    have halarm : AgreeOn buf buf' (Config.dataOff + 12) 1 := hall.drop
    rw [decodeMeasurement, decodeMeasurement, hcounts.be16s, halarm.byteAt]
  · rfl

end Sys2Proof
end

section
/-! PROOF. What each decoder answers on a response of its minimum length, and what the check step then leaves in the
registers (spec/43_operations.md R222 to R236, 42_sequencer.md R204). -/

namespace Sys2Proof.Machine

open Claims (field InFlight Received)

variable {buf : List Byte} {i : Instr} {s : State} {v : View}

/-- The 16-bit field of R65 is the claims' own `field`, computed there in Nat. -/
theorem be16_eq_field {a : Nat} (h : a + 1 < buf.length) : be16 buf a = some (field buf a) := by
  rw [be16, byteAt_eq buf a (by omega), byteAt_eq buf (a + 1) h]
  refine congrArg some (BitVec.eq_of_toNat_eq ?_)
  simp [field]

theorem be16s_eq_fields {a n : Nat} (h : a + 2 * n ≤ buf.length) :
    be16s buf a n = some ((List.range n).map fun k => field buf (a + 2 * k)) := by
  induction n generalizing a with
  | zero => rfl
  | succ n ih =>
    rw [be16s, be16_eq_field (by omega), ih (by omega), List.range_succ_eq_map]
    simp [Function.comp_def, Nat.mul_add, Nat.add_assoc, Nat.add_comm 2]

theorem serialString_eq (fields : List Half) :
    serialString fields = if fields.flatMap dec = [] then [0x30#8] else fields.flatMap dec := by
  unfold serialString
  split
  · next h => rw [if_pos h]
  · next h => rw [if_neg h]

theorem serialString_length_pos (fields : List Half) : 1 ≤ (serialString fields).length := by
  rw [serialString_eq]
  split
  · exact Nat.le_refl 1
  · next h => exact List.length_pos_iff.mpr h

theorem decodeSerialNo_eq (h : 14 ≤ buf.length) :
    decodeSerialNo buf =
      some (.ok (.str (serialString [field buf 3, field buf 5, field buf 7, field buf 9, field buf 11]))) := by
  rw [decodeSerialNo, be16s_eq_fields (by simp only [Config.dataOff]; omega)]
  rfl

theorem decodeSwVersion_eq (h : 17 ≤ buf.length) : decodeSwVersion buf = some (.ok (.str ((buf.drop 3).take 13))) := by
  rw [decodeSwVersion, bytesAt_eq buf _ _ (by simp only [Config.dataOff]; omega)]
  rfl

/-- The byte at DATA_OFF, the one field of four decoders (R228 to R234). -/
theorem byteAt_dataOff (h : 5 ≤ buf.length) : byteAt buf Config.dataOff = some (buf.getD 3 0#8) :=
  byteAt_eq buf 3 (by omega)

theorem decodeCalibRead_eq (h : 5 ≤ buf.length) : decodeCalibRead buf = some (.ok (.byte (buf.getD 3 0#8))) := by
  rw [decodeCalibRead, byteAt_dataOff h]
  rfl

theorem decodeCalibEcho_eq (h : 5 ≤ buf.length) : decodeCalibEcho buf = some (.ok (.byte (buf.getD 3 0#8))) :=
  decodeCalibRead_eq h

theorem decodeMeasureOpened_eq (h : 5 ≤ buf.length) :
    decodeMeasureOpened buf = some (if buf.getD 3 0#8 = 0x02#8 then .ok .unit else .error .measureNotOpened) := by
  rw [decodeMeasureOpened, byteAt_dataOff h]
  rfl

theorem decodeMeasureClosed_eq (h : 5 ≤ buf.length) :
    decodeMeasureClosed buf = some (if buf.getD 3 0#8 = 0x01#8 then .ok .unit else .error .measureNotClosed) := by
  rw [decodeMeasureClosed, byteAt_dataOff h]
  rfl

theorem decodeMeasurement_eq (h : 17 ≤ buf.length) :
    decodeMeasurement buf =
      some (.ok (.sample #v[field buf 3, field buf 5, field buf 7, field buf 9, field buf 11, field buf 13]
        (buf.getD 15 0#8))) := by
  rw [decodeMeasurement, be16s_eq_fields (by simp only [Config.dataOff]; omega),
    byteAt_eq buf (Config.dataOff + 12) (by simp only [Config.dataOff]; omega)]
  rfl

/-- A response that validates is as long as the minimum asks (R165, R205). -/
theorem minLen_le_of_validate {n : Nat} (hv : validate buf n = .ok v) : n ≤ buf.length := by
  obtain ⟨-, -, -, -, -, -, hlen⟩ := validate_ok hv
  exact hlen

/-- The check step of the command in flight, on a response that validates, ends with the decoder's answer (R204). -/
theorem exec_decodes {r : Except ErrorKind Result} (hf : InFlight i s) (hs : s.seq = .check) (hbuf : Received s buf)
    (hv : validate buf (minLen s.cfg i.opcode) = .ok v) (hr : decoderOf i.opcode buf = some r) :
    exec i s = .next (finish r s) := by
  obtain ⟨hd, ho, ha⟩ := hf
  have hconclude : conclude s.cfg s.op buf = some r := by rw [conclude, ho, hv, hr]
  rw [exec_check i s hs hd ho ha, ← ho]
  exact check_concludes hbuf hconclude

/-- A decoded string is written whole: the host reads it back, RES_LEN is its length, and only the string's registers, the
counter of free values and what every completion writes change (R33, R270). -/
theorem exec_writes_string {l : List Byte} (hf : InFlight i s) (hs : s.seq = .check) (hbuf : Received s buf)
    (hv : validate buf (minLen s.cfg i.opcode) = .ok v) (hr : decoderOf i.opcode buf = some (.ok (.str l))) :
    ∃ t, exec i s = .next t ∧ hostResult t = some (.str l) ∧ t.resLen.toNat = l.length ∧
      t = { s with resStr := t.resStr, resLen := t.resLen, free := t.free, status := .ok, done := true, seq := .idle } := by
  have hlen : l.length ≤ 25 := decoderOf_str_length_le hr
  have ⟨_, hop, _⟩ := hf
  refine ⟨_, exec_decodes hf hs hbuf hv hr, hostResult_setResult (hop ▸ decoderOf_ownsResult hr) ?_, ?_, rfl⟩
  · intro l' hl'
    cases hl'
    exact hlen
  · exact Nat.mod_eq_of_lt (by omega)

/-- The end of a measurement command: success without a result, or the operation's own error (R232, R234). -/
theorem finish_discriminated (p : Prop) [Decidable p] (e : ErrorKind) (s : State) :
    finish (if p then .ok .unit else .error e) s =
      { s with status := if p then .ok else .error e, done := true, seq := .idle } := by
  split <;> rfl

end Sys2Proof.Machine

namespace Sys2Proof

open Machine

/-- Settles O24: the five fields' numerals joined, at most 5 digits each, at least the one of "0". -/
theorem serialNumberIsDecoded : Obligations.SerialNumberIsDecoded := by
  intro a s buf v hf hs hbuf hv
  have hdec := decodeSerialNo_eq (minLen_le_of_validate hv)
  obtain ⟨t, ht, hread, hlen, hframe⟩ := exec_writes_string hf hs hbuf hv hdec
  refine ⟨t, _, ht, rfl, ?_, ?_, ?_, hframe⟩
  · rw [hread, serialString_eq]
    simp
  · rw [hlen]
    exact serialString_length_pos _
  · rw [hlen]
    exact serialString_length_le _ rfl

/-- Settles O25: the 13 bytes of `decodeSwVersion_eq`. -/
theorem versionIsCopiedRaw : Obligations.VersionIsCopiedRaw := by
  intro a s buf v hf hs hbuf hv
  have hlong : 17 ≤ buf.length := minLen_le_of_validate hv
  obtain ⟨t, ht, hread, hlen, hframe⟩ := exec_writes_string hf hs hbuf hv (decodeSwVersion_eq hlong)
  refine ⟨t, ht, hread, ?_, hframe⟩
  rw [hlen, List.length_take, List.length_drop]
  omega

/-- Settles O26: every admissible minimum length of the two commands is at least 5, so the byte at index 3 is there. -/
theorem calibrationByteIsReturnedUnchecked : Obligations.CalibrationByteIsReturnedUnchecked := by
  intro a s buf v hw hs hbuf
  obtain ⟨hrcal, -, hscal, -, -, -⟩ := wf_minlens s.cfg hw
  refine ⟨fun hf hv => ?_, fun hf hv => ?_⟩
  · have hlong : 5 ≤ buf.length := hrcal.trans (minLen_le_of_validate hv)
    exact exec_decodes hf hs hbuf hv (decodeCalibRead_eq hlong)
  · have hlong : 5 ≤ buf.length := hscal.trans (minLen_le_of_validate hv)
    exact exec_decodes hf hs hbuf hv (decodeCalibEcho_eq hlong)

/-- Settles O27: the decoder's comparison of the byte at index 3 is the outcome. -/
theorem discriminatorDecidesTheMeasurementCommands : Obligations.DiscriminatorDecidesTheMeasurementCommands := by
  intro a s buf v hs hbuf hv
  have hlong : 5 ≤ buf.length := minLen_le_of_validate hv
  refine ⟨fun hf => ?_, fun hf => ?_⟩
  · rw [exec_decodes hf hs hbuf hv (decodeMeasureOpened_eq hlong), finish_discriminated]
  · rw [exec_decodes hf hs hbuf hv (decodeMeasureClosed_eq hlong), finish_discriminated]

/-- Settles O28: the sample of `decodeMeasurement_eq`, whose 17 bytes every admissible minimum length asks for. -/
theorem measurementIsDecoded : Obligations.MeasurementIsDecoded := by
  intro a s buf v hw hf hs hbuf hv
  obtain ⟨-, -, -, -, hrmeas, -⟩ := wf_minlens s.cfg hw
  have hlong : 17 ≤ buf.length := hrmeas.trans (minLen_le_of_validate hv)
  exact exec_decodes hf hs hbuf hv (decodeMeasurement_eq hlong)

end Sys2Proof
end

section
/-! PROOF. Reset, and the hazard of a response longer than RXBUF (spec/70_reset_and_hazards.md R300, R312). -/

namespace Sys2Proof.Machine

variable {buf : List Byte} {n : Nat} {s : State}

/-- A buffer shorter than the frame its len byte declares fails at R165's first or second test. -/
theorem validate_of_length_lt_declared (h : buf.length < (buf.getD 1 0#8).toNat + 3) :
    validate buf n = .error .insufficientData := by
  by_cases h2 : buf.length < 2
  · exact validate_of_length_lt_two h2
  · rw [validate_eq (Nat.not_lt.mp h2), if_pos h]

/-- While DONE is 0 the host reads no result (R36). -/
theorem hostResult_of_not_done (h : s.done = false) : hostResult s = none := by
  obtain ⟨-, -, -, -, hports⟩ := noResultIsReadableWithoutSuccess s (.inl h)
  exact (hports (.inl h)).2

/-- After reset the line rests at 1 (R43, R150). -/
theorem uartTx_resetRegisters : uartTx s.resetRegisters = true := by
  rw [uartTx, State.resetRegisters_bit]
  decide

end Sys2Proof.Machine

namespace Sys2Proof

open Machine

/-- Settles O36: the declared frame has at least 57 bytes, one more than RXBUF holds, so the buffer is short of it. -/
theorem longResponsesNeverValidate : Obligations.LongResponsesNeverValidate := by
  intro i s buf hf hs hbuf hcnt hlong
  have hlen : buf.length = s.rxCnt.toNat := Memory.readRange_length hbuf
  have hshort : buf.length < (buf.getD 1 0#8).toNat + 3 := by omega
  exact validationErrorIsReported i s buf _ hf hs hbuf (validate_of_length_lt_declared hshort)

/-- Settles O7: both levels answer `resetRegisters`, the byte level after one sample of `rst` is used up (log 5). -/
theorem resetWinsOverEverything : Obligations.ResetWinsOverEverything := by
  intro s p hw hr hp
  refine ⟨_, step_reset s hw hr, clockStep_reset hw hp, ?_⟩
  have hresult := hostResult_of_not_done (State.resetRegisters_done (s := s.tick))
  have hready : cmdReady true s.tick.resetRegisters = false := Bool.and_false _
  simp [hresult, hready, uartTx_resetRegisters, Status.code]

end Sys2Proof
end
